-- ==== Sys2Proof/Word.lean ====
section
/-! DEFINITION. The two word types of the VE840: the byte of a parcel's payload (R3) and the 32-bit tick (R46). -/

namespace Sys2Proof

/-- One byte of a parcel's payload (R3, R206). -/
abbrev Byte := BitVec 8

/-- A reading of the 32-bit tick counter; arithmetic on it wraps (R46, R47). -/
abbrev Tick := BitVec 32

end Sys2Proof
end

