-- ==== Sys2Proof/Syntax.lean ====
section
/-! DEFINITION. The commands of the VE840: one constructor of `Instr` per row of the step table, with the row's operands.
A command is an event the part takes whole: a pin or line event, the handling of the oldest record of the reception
queue, or a timed event of one of its units. -/

namespace Sys2Proof

/-- A cell's key, its channel (0 to 4095) and its beacon code (0 to 511) (R75). -/
structure CellKey where
  channel : Nat
  beacon : Nat
  deriving DecidableEq, Repr

/-- A parcel as its fields: class, topic and source station of the tag, and the payload, whose length is the size (R3). -/
structure Parcel where
  cls : BitVec 3
  topic : BitVec 7
  source : BitVec 4
  payload : List Byte
  deriving DecidableEq, Repr

/-- Where a bit fault is detected (R10, R19): in bit `i` of the stuffed part the part is sending, counted from the
opening bit as 0 with stuff bits included, or in a bit of the part's own loud mark. -/
inductive BitFaultAt where
  | sent (i : Nat)
  | mark
  deriving DecidableEq, Repr

/-- Where a stuff fault is detected (R11): at the part's own recessive stuff bit in the tag (bit `i` of the stuffed part),
or at the last of the bits read on the line since the opening bit (true is recessive). -/
inductive StuffFaultAt where
  | ownTag (i : Nat)
  | read (bits : List Bool)
  deriving DecidableEq, Repr

/-- Where a form fault is detected (R13): a dominant level in a delimiter or in tail bit `n`, or a received size. -/
inductive FormFaultAt where
  | checkDelimiter
  | echoDelimiter
  | tail (n : Nat)
  | size (v : Nat)
  deriving DecidableEq, Repr

/-- What is read before and in the bit of a send opportunity (R7, R8): how many recessive bits in a row before it, since the end of
the last parcel, of the part's own mark or of the last dominant bit; and whether the bit itself is read dominant as another station's
opening bit. -/
structure OpeningRead where
  bits : Nat
  taken : Bool
  deriving DecidableEq, Repr

/-- Where a dominant level that is answered is read (R7, R18): in the fifth tail bit, or in bit `n` of a gap, after `quiet` recessive
bits in a row since the end of the last parcel, of the part's own mark or of the last dominant bit. -/
inductive HoldoffAt where
  | tail
  | gap (n quiet : Nat)
  deriving DecidableEq, Repr

/-- The commands. Where a constructor names a tick, it is the reading of the tick counter at the event. The rows that
handle a parcel have no operand: they take the oldest record of the reception queue (R30). -/
inductive Instr where
  /-- RESET_ASSERT (R31). -/
  | resetAssert
  /-- RESET_RELEASE (R31): the levels of the straps STN[3:0] and RATE[1:0]. -/
  | resetRelease (stn : BitVec 4) (rate : BitVec 2)
  /-- SETTLE_END (R152). -/
  | settleEnd
  /-- JOIN_COMPLETE (R2). -/
  | joinComplete
  /-- SEND_OPPORTUNITY (R8): the tick of the opening bit, where in that tick it begins in 1/15625 of a tick, and what is read
  before and in it. -/
  | sendOpportunity (tick : Tick) (frac : Nat) (quiet : OpeningRead)
  /-- ARBITRATION_LOST (R9): the tag bit, 0 to 13 from the most significant, that the part sent recessive and read dominant. -/
  | arbitrationLost (bit : Nat)
  /-- BIT_FAULT (R10). -/
  | bitFault (place : BitFaultAt)
  /-- STUFF_FAULT (R11). -/
  | stuffFault (place : StuffFaultAt)
  /-- CHECK_FAULT (R12): the bits read from the opening bit through the check, stuff bits included. -/
  | checkFault (bits : List Bool)
  /-- FORM_FAULT (R13). -/
  | formFault (place : FormFaultAt)
  /-- ECHO_FAULT (R14): whether a dominant bit was read during the part's own mark (R19). -/
  | echoFault (markDominant : Bool)
  /-- OWN_HOLDOFF (R17). -/
  | ownHoldoff
  /-- HOLDOFF_ANSWER (R18). -/
  | holdoffAnswer (gapBit : HoldoffAt)
  /-- PARCEL_RECEIVED (R7): the arrival tick and the parcel. -/
  | parcelReceived (arrival : Tick) (p : Parcel)
  /-- PARCEL_SENT (R25). -/
  | parcelSent
  /-- RECOVERY_COMPLETE (R23). -/
  | recoveryComplete
  /-- CLAIM_START_REMOVAL (R26), of the window with this id. -/
  | claimStartRemoval (id : Nat)
  | setup
  | status
  | restart
  | shelve
  | unshelve
  | wakeHold
  | dial
  | answer
  | hangup
  | hold
  | resume
  | swap
  | sendBegin
  | sendPiece
  | sendGo
  | sendCancel
  | readText
  | readMore
  | releaseText
  | rewind
  | queryCalls
  | queryCells
  | queryPlan
  | claim
  | withdraw
  /-- CLAIM_EXPIRY (R69), of the claim keyed by source station and window id. -/
  | claimExpiry (station id : Nat)
  /-- ANCHOR_REBASE (R51). -/
  | anchorRebase
  /-- CLAIM_OFFER (R63), of the window with this id. -/
  | claimOffer (id : Nat)
  /-- STAND_DEADLINE (R65), of the window with this id. -/
  | standDeadline (id : Nat)
  /-- WINDOW_START (R66), of the window with this id. -/
  | windowStart (id : Nat)
  /-- WINDOW_END (R66), of the window with this id. -/
  | windowEnd (id : Nat)
  | cellParams
  | cellList
  | measureReport
  /-- REPORT_INTERVAL (R126). -/
  | reportInterval
  /-- ROUND_SILENCE_DEADLINE (R93), of the round of the window with this id. -/
  | roundSilenceDeadline (id : Nat)
  | scanResult
  /-- PENALTY_EXPIRY (R84), of the record with this key. -/
  | penaltyExpiry (key : CellKey)
  /-- BARRING_EXPIRY (R85), of the record with this key. -/
  | barringExpiry (key : CellKey)
  /-- SCAN_RETRY (R102). -/
  | scanRetry
  /-- SCAN_RESULT_DEADLINE (R103). -/
  | scanResultDeadline
  | campResult
  /-- CAMP_RESULT_DEADLINE (R108). -/
  | campResultDeadline
  /-- MOBILITY_COUNT_EXPIRY (R113), of the ring entry made at this tick. -/
  | mobilityCountExpiry (entry : Tick)
  /-- MOBILITY_FALL (R114). -/
  | mobilityFall
  | linkResult
  /-- LINK_RESULT_DEADLINE (R116). -/
  | linkResultDeadline
  | linkDropped
  /-- CHUNK_RENEWAL (R117), for the ACTIVE chunk with this id. -/
  | chunkRenewal (id : Nat)
  /-- CHUNK_RETRY (R117). -/
  | chunkRetry
  /-- GAP_CHECK (R118). -/
  | gapCheck
  /-- CONNECTION_LOSS (R118). -/
  | connectionLoss
  /-- IDLE_CLOSE (R119). -/
  | idleClose
  | handoverOrder
  | switchResult
  /-- FRAME_END (R143), of the oldest cycle whose frame end has not been taken. -/
  | frameEnd
  | pageResult
  /-- WATCH_RESULT_DEADLINE (R146), of the watch with this window id. -/
  | watchResultDeadline (id : Nat)
  /-- INFO_WAIT_DEADLINE (R149). -/
  | infoWaitDeadline
  /-- DOZE_ENTRY (R153). -/
  | dozeEntry
  /-- WAKE_TICK (R154). -/
  | wakeTick
  /-- LINE_EDGE_WAKE (R156): the tick of the falling edge. -/
  | lineEdgeWake (tick : Tick)
  /-- EDGE_HOLD_EXPIRY (R156). -/
  | edgeHoldExpiry
  /-- SHELVED_ENTRY (R160). -/
  | shelvedEntry
  /-- LINGER_EXPIRY (R43). -/
  | lingerExpiry
  | callEvent
  /-- CALL_TIMER_EXPIRY (R165), of the record with this handle. -/
  | callTimerExpiry (handle : Nat)
  | textSegment
  /-- ASSEMBLY_TIMEOUT (R190), of the assembly with the earliest first segment. -/
  | assemblyTimeout
  /-- STORE_RETRY_TICK (R194). -/
  | storeRetryTick
  | availAck
  /-- AVAIL_ACK_WAIT_EXPIRY (R195). -/
  | availAckWaitExpiry
  | textAck
  /-- SEND_ACK_WAIT_EXPIRY (R203). -/
  | sendAckWaitExpiry
  /-- DOMINANT_AFTER_SPOIL_MARK (R19): which dominant bit it is in the run that began with the first bit after the mark. -/
  | dominantAfterSpoilMark (n : Nat)
  deriving DecidableEq, Repr

end Sys2Proof
end

