-- ==== Sys2Proof/WellFormed.lean ====
section
/-! DEFINITION. Which operands a command can have on this hardware: the ranges the manual gives them. -/

namespace Sys2Proof

/-- A key within the ranges of R75. -/
def CellKey.wf (k : CellKey) : Bool := k.channel ≤ 4095 && k.beacon ≤ 511

/-- A parcel's size is at most 64 (R3). -/
def Parcel.wf (p : Parcel) : Bool := p.payload.length ≤ 64

/-- A place at which R13 gives a form fault. -/
def FormFaultAt.wf : FormFaultAt → Bool
  | .checkDelimiter => true
  | .echoDelimiter => true
  | .tail n => 1 ≤ n && n ≤ 4
  | .size v => 65 ≤ v && v ≤ 127

/-- A bit at which a dominant level is answered: the fifth tail bit, or gap bit 1 or 2 (R7, R18). -/
def HoldoffAt.wf : HoldoffAt → Bool
  | .tail => true
  | .gap n _ => 1 ≤ n && n ≤ 2

/-- A window id of an own window (R53). -/
def wfId (id : Nat) : Bool := 1 ≤ id && id ≤ 255

/-- The operands of a command lie in the ranges the manual gives them. -/
def Instr.wf : Instr → Bool
  | .sendOpportunity _ frac _ => frac < 15625
  | .arbitrationLost bit => bit < 14
  | .formFault place => place.wf
  | .holdoffAnswer gapBit => gapBit.wf
  | .parcelReceived _ p => p.wf
  | .claimStartRemoval id => wfId id
  | .claimExpiry station id => station ≤ 15 && id ≤ 255
  | .claimOffer id => wfId id
  | .standDeadline id => wfId id
  | .windowStart id => wfId id
  | .windowEnd id => wfId id
  | .roundSilenceDeadline id => wfId id
  | .penaltyExpiry key => key.wf
  | .barringExpiry key => key.wf
  | .chunkRenewal id => wfId id
  | .watchResultDeadline id => wfId id
  | .callTimerExpiry h => 1 ≤ h && h ≤ 15
  | .dominantAfterSpoilMark n => 1 ≤ n
  | .resetAssert | .resetRelease _ _ | .settleEnd | .joinComplete | .bitFault _ | .stuffFault _ | .checkFault _
  | .echoFault _ | .ownHoldoff | .parcelSent | .recoveryComplete | .setup | .status | .restart | .shelve | .unshelve
  | .wakeHold | .dial | .answer | .hangup | .hold | .resume | .swap | .sendBegin | .sendPiece | .sendGo | .sendCancel
  | .readText | .readMore | .releaseText | .rewind | .queryCalls | .queryCells | .queryPlan | .claim | .withdraw
  | .anchorRebase | .cellParams | .cellList | .measureReport | .reportInterval | .scanResult | .scanRetry
  | .scanResultDeadline | .campResult | .campResultDeadline | .mobilityCountExpiry _ | .mobilityFall | .linkResult
  | .linkResultDeadline | .linkDropped | .chunkRetry | .gapCheck | .connectionLoss | .idleClose | .handoverOrder
  | .switchResult | .frameEnd | .pageResult | .infoWaitDeadline | .dozeEntry | .wakeTick | .lineEdgeWake _
  | .edgeHoldExpiry | .shelvedEntry | .lingerExpiry | .callEvent | .textSegment | .assemblyTimeout | .storeRetryTick
  | .availAck | .availAckWaitExpiry | .textAck | .sendAckWaitExpiry => true

end Sys2Proof
end

