-- ==== Sys2Proof/Decode.lean ====
section
/-! DEFINITION. The words of the step table. No row of the table gives its command bits, so no word spells a command. -/

namespace Sys2Proof

/-- The command that a word of `nbits` bits spells by the table's bits. The table gives no row any bits, so the answer is
none for every word (assumption log, entry 4). -/
def decodeTableWord (_nbits _w : Nat) : Option Instr := none

end Sys2Proof
end

