-- ==== Sys2Proof/Config.lean ====
section
/-! DEFINITION. What the manual leaves open and the model does not choose: constants without a body. -/

namespace Sys2Proof

/-- A free value: the n-th choice between the two tail ticks that R27 leaves open when no tail tick agrees with the
offsets written from it (assumption log, entry 6). Nothing in Lean can evaluate it. -/
opaque Config.laterTailTick : Nat → Bool

/-- A free value: the reason code of the n-th LINK-REQ offered while no need is raised, for which R115 names none
(assumption log, entry 7). It is one of the five codes of section 10.5. -/
opaque Config.linkReason : Nat → Fin 5

/-- A free value: the n-th rank or level that a HANDOVER-REPORT carries for a record without a filtered level, for which R125
states none (assumption log, entry 25). -/
opaque Config.absentRank : Nat → BitVec 16

/-- A free value: at the n-th period of SLOWCLK, whether the line is idle: no parcel of another station is under way on it, and
the delimiter and the gap of all that was are over (R7; assumption log, entry 10). No row of the step table tells of each level
on the line. -/
opaque Config.lineQuiet : Nat → Bool

end Sys2Proof
end

