-- ==== Sys2Proof/Machine/State.lean ====
section
/-! DEFINITION. The state of the VE840 as plain data: one structure per unit, in the manual's order, the reasons a step can
stop, and the state right after reset. -/

namespace Sys2Proof.Machine

/-- The reasons the part stops. No rule of the manual stops the part, so there is none. -/
inductive Fault
  deriving DecidableEq, Repr

/-- The reasons a command has no meaning here. -/
inductive Refusal where
  /-- Raised by `exec` alone, for a row of the step table without a meaning. Safe: the machine stops. No row is refused. -/
  | notModelled (mnemonic : String)
  deriving DecidableEq, Repr

/-- The units that offer parcels or ask for windows (00_scope.md, R24, R53). -/
inductive UnitId where
  | airtime | command | measurement | service | handover | paging | call | text
  deriving DecidableEq, Repr

/-! ### Line interface -/

/-- The line state (R21). -/
inductive LineState where
  | vocal | muted | detached
  deriving DecidableEq, Repr

/-- The window ticks that a CLAIM or WITHDRAW entry holds for its offset fields (R24, R27). -/
inductive TxSpan where
  | claim (start stop : Tick)
  | withdraw (newEnd : Option Tick)
  deriving DecidableEq, Repr

/-- An entry of the send queue, or a held item (R24). -/
structure TxEntry where
  /-- The order in which the parcel was produced; it also names the entry to its unit. -/
  serial : Nat
  owner : UnitId
  cls : Nat
  topic : Nat
  payload : List Byte
  span : Option TxSpan
  /-- Its unit asked for its removal while it was being sent (R26). -/
  removal : Bool
  deriving DecidableEq, Repr

/-- An attempt to send an entry (R8, R16). -/
structure Attempt where
  serial : Nat
  /-- The stuffed part as sent: true is recessive. -/
  bits : List Bool
  openTick : Tick
  /-- The tick in which the fifth tail bit ends (R27). -/
  tailTick : Tick
  deriving DecidableEq, Repr

/-- What still lies between the last event on the line and an idle line: a mark, a delimiter, a gap (R3, R15, R17, R18). -/
structure LineWait where
  /-- The bit times from the event to an idle line, at least: 0 once idle, 4 for a gap, 19 for a mark, delimiter and gap. -/
  bits : Nat
  /-- The counter at the event; none once those bit times have passed. -/
  since : Option Tick
  /-- The first bit of the coming gap, at which an own holdoff is decided, has not been taken yet (R17). -/
  gap : Bool
  deriving DecidableEq, Repr

/-- The line is idle (R7). -/
def LineWait.idle : LineWait := ⟨0, none, false⟩

/-- What the line interface is doing on the line. -/
inductive LinePhase where
  /-- The line is idle, or in a gap without a holdoff. -/
  | idle
  /-- Sending the parcel of an entry (R8). -/
  | sending (a : Attempt)
  /-- Receiving the parcel for which it lost arbitration (R9). -/
  | receiving
  /-- In or after its own spoil mark (R15), with the dominant bits counted in the run after it (R19). -/
  | marked (loud sender : Bool) (run : Nat)
  /-- In or after its own or answering holdoff mark (R17, R18). -/
  | holdoff
  deriving DecidableEq, Repr

/-- A record of the reception queue (R29). -/
structure RxRecord where
  cls : Nat
  topic : Nat
  source : Nat
  payload : List Byte
  arrival : Tick
  deriving DecidableEq, Repr

/-- The line interface (chapter 1). -/
structure Line where
  station : Nat
  rate : Nat
  sendTally : Nat
  listenTally : Nat
  state : LineState
  joined : Bool
  joinCount : Nat
  recoveryCount : Nat
  ownHoldoffs : Nat
  phase : LinePhase
  /-- What lies between the last event on the line and an idle line (R8, R15, R18). -/
  wait : LineWait
  /-- The recessive bits that a station, while MUTED, waits for after the gap that follows its own attempt (R22). -/
  extraWait : Nat
  nextSerial : Nat
  txq : List TxEntry
  held : List TxEntry
  rxq : List RxRecord
  deriving DecidableEq, Repr

/-! ### Command and notice unit -/

/-- The SETUP record (R34). -/
structure Setup where
  identity : BitVec 32
  index : Nat
  host : Nat
  transceiver : Nat
  /-- The settle exponent as clamped (R33). -/
  settle : Nat
  mask : BitVec 16
  deriving DecidableEq, Repr

/-- The notice kinds (section 2.5). -/
inductive NoticeKind where
  | callOffered | callState | callCleared | textArrived | textSent | textFailed | storeHalf | storeFull
  | serviceChanged | cellChanged | handoverFailed | pagesMissed | mobilityChanged | lineState | receiveOverrun
  | accessBlocked
  deriving DecidableEq, Repr

/-- An entry of the pending notice list (R41). -/
structure NoticeEntry where
  kind : NoticeKind
  count : Nat
  detail : List Byte
  offered : Bool
  follow : Nat
  followDetail : List Byte
  deriving DecidableEq, Repr

/-- The NOTICE outstanding: its entry in the send path and whether RESTART asked for its removal (R42). -/
structure NoticeOut where
  serial : Nat
  kind : NoticeKind
  void : Bool
  deriving DecidableEq, Repr

/-- The command and notice unit (chapter 2). -/
structure Command where
  setup : Option Setup
  notices : List NoticeEntry
  noticeOut : Option NoticeOut
  linger : Option Tick
  /-- A host command's record is being handled, so no NOTICE is built (R42). -/
  handling : Bool
  deriving DecidableEq, Repr

/-! ### Airtime scheduler -/

/-- The frame anchor (R48). -/
structure Anchor where
  frame : Nat
  tick : Tick
  phase : Nat
  deriving DecidableEq, Repr

/-- The window kinds (R52). -/
inductive WinKind where
  | switch | traffic | access | watch | info | measure | scan
  deriving DecidableEq, Repr

/-- How a window was put into the plan (section 3.3). -/
inductive Placement where
  | fixed | floating
  deriving DecidableEq, Repr

/-- The states of an own window (R55). -/
inductive WinState where
  | planned | offered | standing | active
  deriving DecidableEq, Repr

/-- Whose claim or request a window gave way to (R56). -/
inductive GaveWay where
  | peer (station : Nat)
  | own
  deriving DecidableEq, Repr

/-- An own window (R53). -/
structure Window where
  id : Nat
  kind : WinKind
  cls : Nat
  placement : Placement
  start : Tick
  stop : Tick
  state : WinState
  owner : UnitId
  echoed : Bool
  cut : Option GaveWay
  /-- The send-path entry of its CLAIM, once offered. -/
  claim : Option Nat
  deriving DecidableEq, Repr

/-- A peer claim (R69); the kind is kept as sent. -/
structure Claim where
  station : Nat
  id : Nat
  cls : Nat
  kind : Nat
  start : Tick
  stop : Tick
  deriving DecidableEq, Repr

/-- A WITHDRAW owed for a window whose CLAIM was being sent when the window left the plan (R68). -/
structure Owed where
  serial : Nat
  id : Nat
  cls : Nat
  deriving DecidableEq, Repr

/-- The airtime scheduler (chapter 3). -/
structure Airtime where
  now : Tick
  anchor : Option Anchor
  plan : List Window
  peers : List Claim
  idCounter : Nat
  owed : List Owed
  deriving DecidableEq, Repr

/-- The outcomes of a window with their causes (R55, R56). -/
inductive WinOutcome where
  | fullTime
  | released
  | yielded (by_ : GaveWay)
  | cut (by_ : GaveWay)
  | lapsed (late : Bool)
  deriving DecidableEq, Repr

/-- The reports the scheduler gives on a window already placed (R56). -/
inductive Report where
  | standing
  | active
  | shortened (stop : Tick)
  | outcome (o : WinOutcome)
  deriving DecidableEq, Repr

/-! ### Measurement unit -/

/-- The roles of a cell record (R75). -/
inductive Role where
  | serving | listed | found | barred
  deriving DecidableEq, Repr

/-- A cell record (R75). Levels are in 1/16 dB, offset and penalty in dB. -/
structure Cell where
  key : CellKey
  role : Role
  before : Option Role
  barredUntil : Option Tick
  level : Option Int
  quality : Option Int
  samples : Nat
  offset : Int
  penalty : Nat
  penaltyUntil : Option Tick
  betterSince : Option Tick
  misses : Nat
  lastSample : Option Tick
  deriving DecidableEq, Repr

/-- The cell parameters in force (R78). -/
structure Params where
  cycle : Nat
  groups : Nat
  shift : Nat
  lmin : Int
  qmin : Int
  hyst : Nat
  search : Int
  kIdle : Nat
  kConn : Nat
  tr : Nat
  margin : Nat
  nRep : Nat
  interval : Nat
  repCount : Nat
  span : Nat
  nMed : Nat
  nHigh : Nat
  hMed : Nat
  hHigh : Nat
  barred : Bool
  deriving DecidableEq, Repr

/-- How far the order or request that goes with a window has come; `offered` names its entry in the send path. -/
inductive ReqState where
  | unbuilt
  | offered (serial : Nat)
  | sent
  deriving DecidableEq, Repr

/-- A round record (R90), with the keys reported so far (R92). -/
structure Round where
  id : Nat
  start : Tick
  len : Nat
  capacity : Nat
  order : Option (List CellKey)
  req : ReqState
  reported : List CellKey
  lastTaken : Bool
  outcome : Option WinOutcome
  silence : Option Tick
  deriving DecidableEq, Repr

/-- The measurement unit (chapter 4). -/
structure Measure where
  cells : List Cell
  params : Params
  rounds : List Round
  deriving DecidableEq, Repr

/-- Why a record left the cell table (R76). -/
inductive LeaveReason where
  | evicted | missed
  deriving DecidableEq, Repr

/-- Why a round was skipped (R93). -/
inductive SkipReason where
  | silent | released | yielded | cut | lapsed
  deriving DecidableEq, Repr

/-! ### Service controller -/

/-- The service states (R99). -/
inductive ServiceState where
  | unset | scanning | camping | camped | connecting | linked | switching | returning | shelved
  deriving DecidableEq, Repr

/-- The mobility states (R113). -/
inductive Mobility where
  | normal | medium | high
  deriving DecidableEq, Repr

/-- The scan record (R99, R102 to R105). -/
structure Scan where
  window : Option Nat
  order : ReqState
  candidates : List CellKey
  confirm : Option Nat
  reUsed : Bool
  deadline : Option Tick
  retry : Option Tick
  deriving DecidableEq, Repr

/-- Why a camp attempt was begun (R106). -/
inductive CampPurpose where
  | scan | reselect | loss
  deriving DecidableEq, Repr

/-- The camp record (R99, R106). -/
structure Camp where
  target : CellKey
  purpose : CampPurpose
  barredOrigin : Bool
  notRun : Nat
  peerBlocked : Bool
  peerStation : Option Nat
  window : Option Nat
  req : ReqState
  deadline : Option Tick
  deriving DecidableEq, Repr

/-- An entry of the mobility ring (R112). -/
structure RingEntry where
  tick : Tick
  source : Option CellKey
  target : CellKey
  counted : Bool
  deriving DecidableEq, Repr

/-- The reason of the PAGE need (R115, R148). -/
inductive PageReason where
  | call | text
  deriving DecidableEq, Repr

/-- The connection record but for the needs (R99, R115, R116). -/
structure Conn where
  retries : Nat
  peerBlocked : Bool
  peerStation : Option Nat
  peerCount : Nat
  window : Option Nat
  req : ReqState
  deadline : Option Tick
  deriving DecidableEq, Repr

/-- The traffic record (R99, R117 to R119). The TRAFFIC window ids are those of the plan. -/
structure Traffic where
  accrued : Nat
  since : Option Tick
  gapFlag : Bool
  retry : Option Tick
  close : Option Tick
  deriving DecidableEq, Repr

/-- The service controller (chapter 5). -/
structure Service where
  state : ServiceState
  reported : Option ServiceState
  campTick : Option Tick
  unsuitable : Nat
  backoff : Nat
  scan : Option Scan
  camp : Option Camp
  ring : List RingEntry
  mobility : Mobility
  calmSince : Option Tick
  needCall : Bool
  needText : Bool
  needStore : Bool
  needPage : Option PageReason
  conn : Conn
  traffic : Traffic
  deriving DecidableEq, Repr

/-! ### Handover unit -/

/-- The phases of a switch record (R121). -/
inductive SwitchPhase where
  | switch | return_
  deriving DecidableEq, Repr

/-- The causes of HANDOVER-FAILED (section 10.4), with the network's code. -/
inductive SwitchCause where
  | rejected (code : Nat)
  | noResult
  | blocked
  deriving DecidableEq, Repr

/-- The switch record (R121). -/
structure Switch where
  phase : SwitchPhase
  target : CellKey
  old : CellKey
  ticks : Nat
  latest : Tick
  window : Option Nat
  req : ReqState
  cause : Option SwitchCause
  /-- The window's outcome was given while the request was being sent (R129). -/
  ended : Bool
  deriving DecidableEq, Repr

/-- A parcel of the held uplink list (R137). -/
structure Uplink where
  owner : UnitId
  topic : Nat
  payload : List Byte
  deriving DecidableEq, Repr

/-- The handover unit (chapter 6). -/
structure Handover where
  reported : List CellKey
  count : Nat
  nextReport : Option Tick
  /-- The HANDOVER-REPORT queued or held. -/
  report : Option Nat
  switch : Option Switch
  uplink : List Uplink
  deriving DecidableEq, Repr

/-! ### Paging and power unit -/

/-- The watch statuses (R140). -/
inductive WatchStatus where
  | waiting | active | awaiting | answered | missed
  deriving DecidableEq, Repr

/-- A cycle record (R140). -/
structure Cycle where
  frame : Nat
  start : Tick
  stop : Tick
  watch : Option Nat
  status : WatchStatus
  deadline : Option Tick
  measure : Option Nat
  full : Bool
  /-- The frame end tick has been taken (R143). -/
  ended : Bool
  deriving DecidableEq, Repr

/-- The reasons of a missed watch (R150). -/
inductive MissReason where
  | peer | lapsed | silent
  deriving DecidableEq, Repr

/-- The INFO record (R149). -/
structure Info where
  window : Option Nat
  req : ReqState
  deadline : Option Tick
  deriving DecidableEq, Repr

/-- The power states (R151). -/
inductive Power where
  | awake | settling | doze | shelved
  deriving DecidableEq, Repr

/-- The paging and power unit (chapter 7). -/
structure Paging where
  running : Bool
  cycles : List Cycle
  roundsSinceFull : Nat
  /-- The model's own: the FULL MEASURE windows of the unit whose outcome has not been given (R144). -/
  fullMeasures : List Nat
  missed : Nat
  missReason : Option MissReason
  info : Option Info
  power : Power
  settleEnd : Option Tick
  wake : Option Tick
  wakeHold : Bool
  edgeHold : Option Tick
  /-- A cycle could not be planned for want of an anchor (R143). -/
  planOwed : Bool
  deriving DecidableEq, Repr

/-! ### Call unit -/

/-- The call states (R163). -/
inductive CallState where
  | dialing | calling | ringback | offered | answering | connected | holding | held | resuming | clearing
  deriving DecidableEq, Repr

/-- The call causes (R183); NETWORK carries the network's code. -/
inductive CallCause where
  | local_
  | network (code : Nat)
  | noService
  | noAccess
  | radioLost
  | networkTimeout
  | busyHere
  | blocked
  deriving DecidableEq, Repr

/-- A timer that a switch may hold: absent, running to a deadline, or held with its remaining ticks (R138). -/
inductive Timer where
  | off
  | running (deadline : Tick)
  | held (remaining : Nat)
  deriving DecidableEq, Repr

/-- A call record (R162). -/
structure Call where
  handle : Nat
  out : Bool
  state : CallState
  number : Option (List Nat)
  waiting : Bool
  cause : Option CallCause
  timer : Timer
  transaction : Nat
  deriving DecidableEq, Repr

/-- The swap pair (R174, R179): the direction and transaction SWAP named, and the members still in the pair. -/
structure SwapPair where
  out : Bool
  transaction : Nat
  holding : Option Nat
  resuming : Option Nat
  deriving DecidableEq, Repr

/-- The call unit (chapter 8). -/
structure Calls where
  table : List Call
  counter : Nat
  deferred : Option Nat
  pair : Option SwapPair
  timersHeld : Bool
  deriving DecidableEq, Repr

/-! ### Text unit -/

/-- A piece of an assembly (R185). -/
structure Piece where
  index : Nat
  body : List Byte
  deriving DecidableEq, Repr

/-- An assembly (R185). -/
structure Assembly where
  originator : List Nat
  reference : Nat
  total : Nat
  first : Tick
  stamp : List Byte
  pieces : List Piece
  deriving DecidableEq, Repr

/-- A record of the text store (R191). -/
structure StoredText where
  number : Nat
  originator : List Nat
  stamp : List Byte
  total : Nat
  mask : Nat
  complete : Bool
  seen : Bool
  body : List Byte
  deriving DecidableEq, Repr

/-- A pending read (R197), with the station that sent its READ-TEXT, to which its ANSWER goes (section 10.4; assumption log,
entry 33). -/
structure PendingRead where
  source : Nat
  topic : Nat
  reference : Nat
  offset : Nat
  deriving DecidableEq, Repr

/-- The states of the STORE-AVAILABLE exchange (R194). -/
inductive Exchange where
  | none | owed | due | awaiting | retry
  deriving DecidableEq, Repr

/-- The states of an outbound entry (R200). -/
inductive OutState where
  | composing | queued | sending
  deriving DecidableEq, Repr

/-- An outbound entry (R200, R202); an unwritten byte is none, and `segment` is the segment awaited while SENDING. -/
structure OutText where
  dest : List Nat
  body : List (Option Byte)
  state : OutState
  reference : Nat
  goTick : Tick
  segment : Nat
  wait : Timer
  resent : Bool
  deriving DecidableEq, Repr

/-- The text unit (chapter 9). -/
structure Text where
  assemblies : List Assembly
  store : List StoredText
  /-- The text number the unread cursor is on; none is END. -/
  unread : Option Nat
  halfArmed : Bool
  readCursor : Option (Nat × Nat)
  pendingRead : Option PendingRead
  counter : Nat
  capacityOwed : Bool
  exchange : Exchange
  ackWait : Timer
  retryTick : Option Tick
  refusedSince : Bool
  outbound : List OutText
  refCounter : Nat
  timersHeld : Bool
  deriving DecidableEq, Repr

/-! ### The whole part -/

/-- What a placed window is for: what its requesting unit does when it is told placed (R56). -/
inductive Waiter where
  | scan | confirm | camp | link | chunk | switch | info
  /-- The WATCH window of this cycle (R143). -/
  | watch (c : Cycle)
  /-- The MEASURE window of this cycle, of this scope (R143, R144). -/
  | round (c : Cycle) (full : Bool)
  deriving DecidableEq, Repr

/-- Work that one unit hands to another within the handling of a command. -/
inductive Job where
  /-- The scheduler's report on a window (R56). -/
  | report (owner : UnitId) (kind : WinKind) (id : Nat) (r : Report)
  /-- The scheduler's "placed" to a request that displaced windows, told after their outcomes (R56, R61). -/
  | placed (w : Waiter) (id : Nat) (start stop : Tick)
  /-- The end of a round, told to the service controller (R93). -/
  | roundDone (id : Nat) (skip : Option SkipReason)
  /-- The line interface tells a unit "sent" or "removed unsent" (R25, R26), with the tail tick of the attempt. -/
  | told (sent : Bool) (e : TxEntry) (tail : Tick)
  /-- The paging unit releases its windows after a change out of CAMPED (R142). -/
  | pagingRelease
  /-- An access attempt failed (R116); a peer's blocking gives its station if known. -/
  | linkFailed (blocked : Option (Option Nat))
  /-- A camp attempt's window did not run (R106). -/
  | campNotRun (blocked : Option (Option Nat))
  /-- CAMPED was entered: open the connection if a need is raised (R115). -/
  | openCheck
  /-- LINKED was entered again: take a close whose tick was reached (R119). -/
  | closeCheck
  deriving DecidableEq, Repr

/-- The state of the VE840. -/
structure State where
  /-- RESET_N is low (R31). -/
  inReset : Bool
  line : Line
  cmd : Command
  air : Airtime
  meas : Measure
  svc : Service
  ho : Handover
  pag : Paging
  calls : Calls
  text : Text
  /-- The model's own: work left to do in the handling under way; empty between commands. -/
  agenda : List Job
  /-- The model's own: how many free values have been used. -/
  freeCount : Nat
  /-- The model's own: the commands that are waiting, first in, first out. -/
  pending : List Instr
  deriving DecidableEq, Repr

/-- The default parameters (R78). -/
def Params.default : Params where
  cycle := 128
  groups := 4
  shift := 0
  lmin := -120
  qmin := -18
  hyst := 4
  search := -90
  kIdle := 2
  kConn := 3
  tr := 2
  margin := 3
  nRep := 8
  interval := 4
  repCount := 4
  span := 60
  nMed := 4
  nHigh := 8
  hMed := 2
  hHigh := 4
  barred := false

/-- The line interface after a hard reset (section 1.8); station and rate are read at reset release (assumption log, 1). -/
def Line.reset : Line where
  station := 0
  rate := 0
  sendTally := 0
  listenTally := 0
  state := .vocal
  joined := false
  joinCount := 0
  recoveryCount := 0
  ownHoldoffs := 0
  phase := .idle
  wait := .idle
  extraWait := 0
  nextSerial := 0
  txq := []
  held := []
  rxq := []

/-- The command and notice unit after a hard reset (R44). -/
def Command.reset : Command where
  setup := none
  notices := []
  noticeOut := none
  linger := none
  handling := false

/-- The airtime scheduler after a hard reset (section 3.9). -/
def Airtime.reset : Airtime where
  now := 0
  anchor := none
  plan := []
  peers := []
  idCounter := 0
  owed := []

/-- The measurement unit after a hard reset (R98). -/
def Measure.reset : Measure where
  cells := []
  params := Params.default
  rounds := []

/-- No access attempt (R99). -/
def Conn.idle : Conn where
  retries := 0
  peerBlocked := false
  peerStation := none
  peerCount := 0
  window := none
  req := .unbuilt
  deadline := none

/-- A cleared traffic record (R99). -/
def Traffic.idle : Traffic where
  accrued := 0
  since := none
  gapFlag := false
  retry := none
  close := none

/-- The service controller after a hard reset (R99). -/
def Service.reset : Service where
  state := .unset
  reported := none
  campTick := none
  unsuitable := 0
  backoff := 65536
  scan := none
  camp := none
  ring := []
  mobility := .normal
  calmSince := none
  needCall := false
  needText := false
  needStore := false
  needPage := none
  conn := Conn.idle
  traffic := Traffic.idle

/-- The handover unit after a hard reset (R121). -/
def Handover.reset : Handover where
  reported := []
  count := 0
  nextReport := none
  report := none
  switch := none
  uplink := []

/-- The paging and power unit after a hard reset (R140). The settle wait begins at reset release (R31). -/
def Paging.reset : Paging where
  running := false
  cycles := []
  roundsSinceFull := 255
  fullMeasures := []
  missed := 0
  missReason := none
  info := none
  power := .settling
  settleEnd := none
  wake := none
  wakeHold := false
  edgeHold := none
  planOwed := false

/-- The call unit after a hard reset (R162, R182). -/
def Calls.reset : Calls where
  table := []
  counter := 0
  deferred := none
  pair := none
  timersHeld := false

/-- The text unit after a hard reset (R185). -/
def Text.reset : Text where
  assemblies := []
  store := []
  unread := none
  halfArmed := true
  readCursor := none
  pendingRead := none
  counter := 0
  capacityOwed := false
  exchange := .none
  ackWait := .off
  retryTick := none
  refusedSince := false
  outbound := []
  refCounter := 0
  timersHeld := false

/-- The part while RESET_N is low: every piece of state at its hard-reset value (R31), no command waiting. -/
def State.reset : State where
  inReset := true
  line := Line.reset
  cmd := Command.reset
  air := Airtime.reset
  meas := Measure.reset
  svc := Service.reset
  ho := Handover.reset
  pag := Paging.reset
  calls := Calls.reset
  text := Text.reset
  agenda := []
  freeCount := 0
  pending := []

end Sys2Proof.Machine
end

