-- ==== Sys2Proof/Machine/Ticks.lean ====
section
/-! DEFINITION. Ticks and frames: the comparisons of R47, moving the counter to the tick of an event, and the frame
boundaries of R48 to R51. -/

namespace Sys2Proof.Machine

/-- Tick `t` is later than tick `u` when (t − u) mod 2^32 lies in 1 to 2^31 − 1 (R47). -/
def later (t u : Tick) : Bool := 1 ≤ (t - u).toNat && (t - u).toNat ≤ 2 ^ 31 - 1

/-- Tick `t` is earlier than tick `u` (R47). -/
def earlier (t u : Tick) : Bool := later u t

/-- Tick `t` is not later than tick `u` (R47). -/
def notLater (t u : Tick) : Bool := t == u || earlier t u

/-- The counter at `now` has reached tick `t`: it equals it or is later (R47). -/
def reached (now t : Tick) : Bool := notLater t now

/-- The later of two ticks. -/
def laterOf (t u : Tick) : Tick := if later u t then u else t

/-- The tick `n` ticks after `t`, modulo 2^32. -/
def after (t : Tick) (n : Nat) : Tick := BitVec.ofNat 32 n + t

/-- The tick `n` ticks before `t`, modulo 2^32. -/
def before (t : Tick) (n : Nat) : Tick := t - BitVec.ofNat 32 n

/-- The ticks from `u` to `t`, modulo 2^32. -/
def elapsed (t u : Tick) : Nat := (t - u).toNat

/-- The signed offset of tick `t` from tick `u` (R74, R206). -/
def offset (t u : Tick) : Int := (t - u).toInt

/-- The earliest of a list of ticks. -/
def earliestOf : List Tick → Option Tick
  | [] => none
  | t :: ts =>
    match earliestOf ts with
    | none => some t
    | some u => if earlier u t then some u else some t

/-- The present reading of the tick counter (R46). -/
def State.now (s : State) : Tick := s.air.now

/-- The counter comes to tick `t` if it has not reached it yet (assumption log, entry 2). -/
def State.reach (s : State) (t : Tick) : State :=
  if later t s.now then { s with air.now := t } else s

/-- Two spans overlap when each starts before the other ends (R58). -/
def overlap (start stop start' stop' : Tick) : Bool := earlier start stop' && earlier start' stop

/-- The boundary of frame N + k of the anchor: A + floor((p + 8192·k)/25) (R49). -/
def Anchor.boundary (a : Anchor) (k : Nat) : Tick := after a.tick ((a.phase + 8192 * k) / 25)

/-- The least k for which frame N + k has remainder r modulo D and a boundary not earlier than t (R50). -/
def Anchor.nextIndex (a : Anchor) (d r : Nat) (t : Tick) : Nat :=
  let k0 := (r + d - a.frame % d) % d
  if later t a.tick then
    -- floor((p + 8192·k)/25) ≥ g exactly when 8192·k ≥ 25·g − p
    let need := (8191 + (25 * elapsed t a.tick - a.phase)) / 8192
    if need ≤ k0 then k0 else k0 + d * ((need - k0 + d - 1) / d)
  else k0

/-- The frame so found: its number, its boundary and the boundary of the frame after it (R50). -/
def Anchor.nextFrame (a : Anchor) (d r : Nat) (t : Tick) : Nat × Tick × Tick :=
  let k := a.nextIndex d r t
  ((a.frame + k) % 1024, a.boundary k, a.boundary (k + 1))

end Sys2Proof.Machine
end

