-- ==== Sys2Proof/Machine/Operands.lean ====
section
/-! DEFINITION. The fields of payloads as the part reads and writes them (R206), the least lengths of the parcels it takes
(section 10.1, R207), which parcels it discards as malformed (R208), and the codes of section 10.6. -/

namespace Sys2Proof.Machine

/-! ### Reading -/

/-- Byte `i` of a payload as a number; a byte beyond the payload reads as 0 and is never used of a payload not short. -/
def u8 (p : List Byte) (i : Nat) : Nat := (p.getD i 0).toNat

/-- The two bytes at `i`, most significant first. -/
def u16 (p : List Byte) (i : Nat) : Nat := u8 p i * 256 + u8 p (i + 1)

/-- The four bytes at `i`, most significant first. -/
def u32 (p : List Byte) (i : Nat) : Nat := u16 p i * 65536 + u16 p (i + 2)

/-- The signed byte at `i`. -/
def i8 (p : List Byte) (i : Nat) : Int := (p.getD i 0).toInt

/-- The signed two bytes at `i`. -/
def i16 (p : List Byte) (i : Nat) : Int := (BitVec.ofNat 16 (u16 p i)).toInt

/-- The level byte at `i`: an attenuation (R206). -/
def levelAt (p : List Byte) (i : Nat) : Int := -(u8 p i : Int)

/-- The cell key at `i`: channel in the upper 12 bits, beacon code in the lower 12 (R206). -/
def keyAt (p : List Byte) (i : Nat) : CellKey :=
  let v := u16 p i * 256 + u8 p (i + 2)
  { channel := v / 4096, beacon := v % 4096 }

/-- A key of a cell has a beacon code of at most 511 (R206). -/
def keyOk (k : CellKey) : Bool := k.beacon ≤ 511

/-- Symbol `j` of the digit string whose length byte is at `i`: two a byte, the first in the high half (R206). -/
def symbolAt (p : List Byte) (i j : Nat) : Nat :=
  let b := u8 p (i + 1 + j / 2)
  if j % 2 == 0 then b / 16 else b % 16

/-- The symbols of the digit string whose length byte is at `i`. -/
def digitsAt (p : List Byte) (i : Nat) : List Nat := (List.range (u8 p i)).map (symbolAt p i)

/-- A string is well formed when its length is 1 to 20, every symbol is at most 11, and an odd length ends with 15 (R206). -/
def digitsOk (p : List Byte) (i : Nat) : Bool :=
  let n := u8 p i
  1 ≤ n && n ≤ 20 && (digitsAt p i).all (· ≤ 11) && (n % 2 == 0 || symbolAt p i n == 15)

/-- Half of `n`, rounded up. -/
def ceilHalf (n : Nat) : Nat := (n + 1) / 2

/-! ### Writing -/

/-- A byte with the low 8 bits of `n`. -/
def byte (n : Nat) : Byte := BitVec.ofNat 8 n

/-- Two bytes, most significant first. -/
def bytes2 (n : Nat) : List Byte := [byte (n / 256), byte n]

/-- Four bytes, most significant first. -/
def bytes4 (n : Nat) : List Byte := bytes2 (n / 65536) ++ bytes2 n

/-- A signed byte. -/
def sbyte (v : Int) : Byte := BitVec.ofInt 8 v

/-- Two bytes, two's complement. -/
def sbytes2 (v : Int) : List Byte := bytes2 (BitVec.ofInt 16 v).toNat

/-- Four bytes, two's complement. -/
def sbytes4 (v : Int) : List Byte := bytes4 (BitVec.ofInt 32 v).toNat

/-- A cell key (R206). -/
def keyBytes (k : CellKey) : List Byte :=
  let v := k.channel * 4096 + k.beacon
  [byte (v / 65536), byte (v / 256), byte v]

/-- A cell key that may be absent: all ones (R206). -/
def keyBytesOr : Option CellKey → List Byte
  | some k => keyBytes k
  | none => [255, 255, 255]

/-- Symbols packed two a byte; an odd number ends with 15 (R206). -/
def packDigits : List Nat → List Byte
  | [] => []
  | [a] => [byte (a * 16 + 15)]
  | a :: b :: rest => byte (a * 16 + b) :: packDigits rest

/-- A fixed digit string field: the length byte and ten bytes, the pad sent as 0 (R206). -/
def fixedDigits (ds : List Nat) : List Byte :=
  byte ds.length :: (packDigits ds ++ List.replicate (10 - ceilHalf ds.length) 0)

/-- A flag bit. -/
def flag (bit : Nat) (b : Bool) : Nat := if b then 2 ^ bit else 0

/-- A byte that may be absent: 0xFF (R206). -/
def byteOr : Option Nat → Byte
  | some n => byte n
  | none => 255

/-- The detail of a NOTICE: 8 bytes, those beyond the kind's own being 0 (section 10.4). -/
def pad8 (d : List Byte) : List Byte := (d ++ List.replicate 8 0).take 8

/-! ### Codes of section 10.6 and of the layouts -/

def ServiceState.code : ServiceState → Nat
  | .unset => 0
  | .scanning => 1
  | .camping => 2
  | .camped => 3
  | .connecting => 4
  | .linked => 5
  | .switching => 6
  | .returning => 7
  | .shelved => 8

def Power.code : Power → Nat
  | .awake => 0
  | .settling => 1
  | .doze => 2
  | .shelved => 3

def LineState.code : LineState → Nat
  | .vocal => 0
  | .muted => 1
  | .detached => 2

def Mobility.code : Mobility → Nat
  | .normal => 0
  | .medium => 1
  | .high => 2

def Role.code : Role → Nat
  | .serving => 0
  | .listed => 1
  | .found => 2
  | .barred => 3

def WinState.code : WinState → Nat
  | .planned => 0
  | .offered => 1
  | .standing => 2
  | .active => 3

/-- The class of a window kind (R52). -/
def WinKind.cls : WinKind → Nat
  | .switch => 0
  | .traffic => 1
  | .access => 2
  | .watch => 3
  | .info => 3
  | .measure => 4
  | .scan => 5

/-- The kind code of a CLAIM (section 10.3). -/
def WinKind.code : WinKind → Nat
  | .switch => 0
  | .traffic => 1
  | .access => 2
  | .watch => 3
  | .info => 4
  | .measure => 5
  | .scan => 6

def CallState.code : CallState → Nat
  | .dialing => 0
  | .calling => 1
  | .ringback => 2
  | .offered => 3
  | .answering => 4
  | .connected => 5
  | .holding => 6
  | .held => 7
  | .resuming => 8
  | .clearing => 9

def CallCause.code : CallCause → Nat
  | .local_ => 0
  | .network _ => 1
  | .noService => 2
  | .noAccess => 3
  | .radioLost => 4
  | .networkTimeout => 5
  | .busyHere => 6
  | .blocked => 7

/-- The network's code that goes with a cause: 0 unless the cause is NETWORK (section 10.6). -/
def CallCause.netCode : CallCause → Nat
  | .network c => c
  | _ => 0

def CampPurpose.code : CampPurpose → Nat
  | .scan => 0
  | .reselect => 1
  | .loss => 2

def SwitchCause.code : SwitchCause → Nat
  | .rejected _ => 0
  | .noResult => 1
  | .blocked => 2

def SwitchCause.netCode : SwitchCause → Nat
  | .rejected c => c
  | _ => 0

def MissReason.code : MissReason → Nat
  | .peer => 0
  | .lapsed => 1
  | .silent => 2

/-- The notice kind numbers (section 2.5). -/
def NoticeKind.code : NoticeKind → Nat
  | .callOffered => 0
  | .callState => 1
  | .callCleared => 2
  | .textArrived => 3
  | .textSent => 4
  | .textFailed => 5
  | .storeHalf => 6
  | .storeFull => 7
  | .serviceChanged => 8
  | .cellChanged => 9
  | .handoverFailed => 10
  | .pagesMissed => 11
  | .mobilityChanged => 12
  | .lineState => 13
  | .receiveOverrun => 14
  | .accessBlocked => 15

/-- The class of a notice kind: 5 for calls, 6 for the others (section 2.5). -/
def NoticeKind.cls (k : NoticeKind) : Nat := if k.code ≤ 2 then 5 else 6

def UnitId.code : UnitId → Nat
  | .service => 0
  | .handover => 1
  | .paging => 2
  | _ => 255

/-- The outcomes of an ANSWER (R36, section 10.4). -/
inductive Answered where
  | done | busy | state | value | full | noText | shelved | unset
  deriving DecidableEq, Repr

def Answered.code : Answered → Nat
  | .done => 0
  | .busy => 1
  | .state => 2
  | .value => 3
  | .full => 4
  | .noText => 5
  | .shelved => 6
  | .unset => 7

/-! ### Least lengths and malformed parcels -/

/-- The least payload of a topic, reckoned with the payload's own counts (section 10.1). -/
def minPayload (topic : Nat) (p : List Byte) : Nat :=
  match topic with
  | 1 => 7
  | 2 => 4
  | 8 => 13
  | 13 => 3
  | 14 => 3 + ceilHalf (min (u8 p 2) 20)
  | 15 => 4
  | 16 => 3
  | 17 => 3
  | 18 => 3
  | 20 => 15
  | 21 => 4
  | 24 => 6
  | 26 => 4
  | 40 => 24
  | 41 => 5 + 4 * min (u8 p 4) 12
  | 42 => 4 + 5 * u8 p 3
  | 43 => 3 + 6 * u8 p 2
  | 44 => 9 + 5 * u8 p 8
  | 45 => 11
  | 46 => 3
  | 47 => 6 + ceilHalf (u8 p 5)
  | 48 => 22 + u8 p 21
  | 49 => 5
  | 50 => 5
  | 51 => 11
  | 52 => 1
  | 53 => 2
  | _ => 2

/-- A payload is short (R207): below its topic's least length, or a MEASURE-REPORT or PAGE-RESULT with a count above 8. -/
def isShort (topic : Nat) (p : List Byte) : Bool :=
  p.length < minPayload topic p || (topic == 42 && 8 < u8 p 3) || (topic == 44 && 8 < u8 p 8)

/-- The keys of `n` entries of `width` bytes from byte `i`. -/
def keysAt (p : List Byte) (i width n : Nat) : List CellKey :=
  (List.range n).map fun j => keyAt p (i + width * j)

/-- An anchor field names a frame of 0 to 1023 (R208). -/
def anchorOk (p : List Byte) (i : Nat) : Bool := u16 p i ≤ 1023

/-- A transceiver parcel that is not short is discarded whole when it carries any of these (R208). -/
def isMalformed (topic : Nat) (p : List Byte) : Bool :=
  match topic with
  | 40 => !keyOk (keyAt p 1)
  | 41 => !keyOk (keyAt p 1) || !(keysAt p 5 4 (min (u8 p 4) 12)).all keyOk
  | 42 => !(keysAt p 4 5 (u8 p 3)).all keyOk
  | 43 => 10 < u8 p 2 || !(keysAt p 3 6 (u8 p 2)).all keyOk
  | 44 => !anchorOk p 2
  | 45 => !keyOk (keyAt p 1) || 1 < u8 p 4 || !anchorOk p 6
  | 46 => 1 < u8 p 1
  | 47 =>
    10 < u8 p 1 || 7 < u8 p 3 || (u8 p 1 != 10 && 1 < u8 p 2) || (u8 p 1 == 10 && u8 p 5 != 0 && !digitsOk p 5)
  | 49 => 1 < u8 p 3
  | 50 => !keyOk (keyAt p 1)
  | 51 => !keyOk (keyAt p 1) || 1 < u8 p 4 || !anchorOk p 6
  | _ => false

/-- Host topics (R30). -/
def isHostTopic (t : Nat) : Bool := 8 ≤ t && t ≤ 30

/-- Transceiver topics (R30). -/
def isTransceiverTopic (t : Nat) : Bool := 40 ≤ t && t ≤ 53

end Sys2Proof.Machine
end

