-- ==== Sys2Proof/Machine/Wire.lean ====
section
/-! DEFINITION. A parcel on the line, bit by bit: the fields of the stuffed part (R3), stuffing (R4) and the check (R5).
A bit is true when the level is recessive (1) and false when it is dominant (0). -/

namespace Sys2Proof.Machine

/-- The `n` low bits of `v`, most significant first. -/
def bitsMsb : Nat → Nat → List Bool
  | 0, _ => []
  | n + 1, v => v.testBit n :: bitsMsb n v

/-- The number whose bits, most significant first, are the list. -/
def ofBitsMsb (bits : List Bool) : Nat := bits.foldl (fun n b => 2 * n + b.toNat) 0

/-- One bit shifted into the check register of polynomial x^16 + x^12 + x^5 + 1 (R5). -/
def crcStep (reg : Nat) (b : Bool) : Nat :=
  let shifted := (2 * reg) % 65536
  if xor (reg.testBit 15) b then shifted ^^^ 0x1021 else shifted

/-- The check of the bits from the opening bit through the last payload bit: the register starts at all ones (R5). -/
def crc (bits : List Bool) : Nat := bits.foldl crcStep 0xFFFF

/-- The tag as a 14-bit number (R3). -/
def tagOf (cls topic station : Nat) : Nat := cls * 2048 + topic * 16 + station

/-- The bits of the payload bytes. -/
def payloadBits : List Byte → List Bool
  | [] => []
  | b :: bs => bitsMsb 8 b.toNat ++ payloadBits bs

/-- The opening bit, tag, size and payload of a parcel, before its check. -/
def headBits (p : Parcel) : List Bool :=
  false :: (bitsMsb 14 (tagOf p.cls.toNat p.topic.toNat p.source.toNat) ++ bitsMsb 7 p.payload.length
    ++ payloadBits p.payload)

/-- The stuffed part of a parcel before stuffing (R3). -/
def plainBits (p : Parcel) : List Bool := headBits p ++ bitsMsb 16 (crc (headBits p))

/-- Stuffing from a run of `run` bits equal to `last`: after six equal bits their complement is inserted, and it begins a
run of its own (R4). A stuff bit is marked true in the second component. -/
def stuffFrom (last : Bool) (run : Nat) : List Bool → List (Bool × Bool)
  | [] => []
  | b :: bs =>
    let n := if b == last && run != 0 then run + 1 else 1
    if n == 6 then (b, false) :: (!b, true) :: stuffFrom (!b) 1 bs else (b, false) :: stuffFrom b n bs

/-- The stuffed part with each bit marked as a stuff bit or not. -/
def markedBits (p : Parcel) : List (Bool × Bool) := stuffFrom false 0 (plainBits p)

/-- The stuffed part of a parcel as sent (R4). -/
def wire (p : Parcel) : List Bool := (markedBits p).map Prod.fst

/-- What a receiver makes of the bits it reads in the stuffed part (R4): its plain bits, or where a seventh equal bit was. -/
inductive Unstuffed where
  | plain (bits : List Bool)
  | sevenEqual (remaining : Nat)
  deriving DecidableEq, Repr

/-- A plain bit put before what follows it. -/
def Unstuffed.push (b : Bool) : Unstuffed → Unstuffed
  | .plain bits => .plain (b :: bits)
  | .sevenEqual n => .sevenEqual n

/-- Removing stuff bits, from a run of `run` bits equal to `last` (R4). -/
def unstuffFrom (last : Bool) (run : Nat) : List Bool → Unstuffed
  | [] => .plain []
  | b :: bs =>
    if run == 6 then
      if b == last then .sevenEqual bs.length else unstuffFrom b 1 bs
    else (unstuffFrom b (if b == last && run != 0 then run + 1 else 1) bs).push b

/-- Removing the stuff bits of a stuffed part. -/
def unstuff (bits : List Bool) : Unstuffed := unstuffFrom false 0 bits

/-- Whether the bit that follows these plain bits, its stuff bits removed, is still of the stuffed part: the parcel has a size of
at most 64, and no bit of its check has been passed but perhaps the last, which a stuff bit may follow (R3, R4). -/
def inStuffedPart (plain : List Bool) : Bool :=
  let size := ofBitsMsb ((plain.drop 15).take 7)
  plain.length < 22 || (size ≤ 64 && plain.length ≤ 38 + 8 * size)

/-- The last of the bits read is a stuff fault: they begin with a dominant opening bit, and the last of them is the first that
equals the six before it, and stands in the stuffed part (R4, R11). -/
def isStuffFault (bits : List Bool) : Bool :=
  bits.head? == some false && unstuff bits == .sevenEqual 0
    && match unstuff bits.dropLast with
      | .plain plain => inStuffedPart plain
      | .sevenEqual _ => false

/-- The bytes that a list of bits spells, eight at a time. -/
def bytesOfBits : Nat → List Bool → List Byte
  | 0, _ => []
  | n + 1, bits => BitVec.ofNat 8 (ofBitsMsb (bits.take 8)) :: bytesOfBits n (bits.drop 8)

/-- What a receiver makes of a whole stuffed part: the parcel, or the fault it detects by the end of the check. -/
inductive ReceivedPart where
  | parcel (p : Parcel)
  | checkFault
  | other
  deriving DecidableEq, Repr

/-- Reading the plain bits of a stuffed part: opening bit, tag, size, payload and check (R3, R5). -/
def readPlain (bits : List Bool) : ReceivedPart :=
  let size := ofBitsMsb ((bits.drop 15).take 7)
  let head := bits.take (22 + 8 * size)
  if bits.head? != some false || bits.length != 38 + 8 * size || 64 < size then .other
  else if crc head != ofBitsMsb (bits.drop (22 + 8 * size)) then .checkFault
  else .parcel {
    cls := BitVec.ofNat 3 (ofBitsMsb ((bits.drop 1).take 3))
    topic := BitVec.ofNat 7 (ofBitsMsb ((bits.drop 4).take 7))
    source := BitVec.ofNat 4 (ofBitsMsb ((bits.drop 11).take 4))
    payload := bytesOfBits size (bits.drop 22) }

/-- Reading a stuffed part from the line (R3 to R5). -/
def unwire (bits : List Bool) : ReceivedPart :=
  match unstuff bits with
  | .plain plain => readPlain plain
  | .sevenEqual _ => .other

/-- Where a bit of the stuffed part stands: in the tag as a plain bit, as a stuff bit between two tag bits, or elsewhere
(R9 to R11). The opening bit is before the tag. -/
inductive SentBit where
  | opening (level : Bool)
  | tag (level : Bool)
  | tagStuff (level : Bool)
  | pastTag (level : Bool)
  deriving DecidableEq, Repr

/-- Bit `i` of a marked stuffed part; `plain` counts the plain bits already passed. -/
def sentBitFrom (plain : Nat) : List (Bool × Bool) → Nat → Option SentBit
  | [], _ => none
  | (b, isStuff) :: rest, i =>
    match i with
    | 0 =>
      if isStuff then some (if plain ≤ 14 then .tagStuff b else .pastTag b)
      else if plain == 0 then some (.opening b)
      else some (if plain ≤ 14 then .tag b else .pastTag b)
    | i + 1 => sentBitFrom (if isStuff then plain else plain + 1) rest i

/-- Bit `i` of the stuffed part of a parcel. -/
def sentBit (p : Parcel) (i : Nat) : Option SentBit := sentBitFrom 0 (markedBits p) i

/-- The bits of a parcel from its opening bit to the end of its fifth tail bit: the stuffed part, the check delimiter, the
echo slot, the echo delimiter and five tail bits (R3, R27). -/
def bitsToTailEnd (p : Parcel) : Nat := (wire p).length + 8

/-- The bit time in 1/15625 of a tick at each line rate: 2, 1, 0.5 and 0.25 µs (R1). -/
def bitTime (rate : Nat) : Nat := 1024 / 2 ^ rate

end Sys2Proof.Machine
end

