-- ==== Sys2Proof/Machine/Ops.lean ====
section
/-! DEFINITION. The shared operations of the line interface's queues (R24 to R30) and of the idle line (R7, R15, R18), the start of a
settle wait (R152), and the handing of work from unit to unit. -/

namespace Sys2Proof.Machine

/-- Hands a piece of work on, to be done within the handling under way. -/
def State.push (s : State) (j : Job) : State := { s with agenda := s.agenda ++ [j] }

/-! ### Power -/

/-- 2^e ticks for the settle exponent in force; 512 before SETUP (R31, R152). -/
def State.settleTicks (s : State) : Nat :=
  match s.cmd.setup with
  | some c => 2 ^ c.settle
  | none => 512

/-- The wake lead L = 2^e + 99 (R140). -/
def State.wakeLead (s : State) : Nat := s.settleTicks + 99

/-- A settle wait begins on this tick; one caused by an edge also sets the edge hold deadline (R152, R156). The wake tick becomes
absent: R154 says so where the wake tick itself is reached, and the model does it also after an edge or an internal wake (DESIGN
CHOICE; assumption log, entry 38). -/
def State.beginSettling (s : State) (edge : Bool) : State :=
  let stop := after s.now s.settleTicks
  { s with pag :=
    { s.pag with
      power := .settling
      settleEnd := some stop
      wake := none
      edgeHold := if edge then some (after stop 3277) else s.pag.edgeHold } }

/-- In DOZE, an internal wake begins SETTLING (R155). -/
def State.internalWake (s : State) : State := if s.pag.power == .doze then s.beginSettling false else s

/-! ### The idle line -/

/-- After a parcel whose fifth tail bit ends in tick `t`: the gap's four bits follow (R3, R7). -/
def LineWait.parcel (t : Tick) : LineWait := ⟨4, some t, true⟩

/-- From the bit before a mark or holdoff of the part's own, in tick `t`: the mark's eight bits, the delimiter's seven and the
gap's four follow (R15, R18). -/
def LineWait.mark (t : Tick) : LineWait := ⟨19, some t, true⟩

/-- From a dominant bit after a mark, in tick `t`: a whole delimiter and the gap follow (R15). -/
def LineWait.delimiter (t : Tick) : LineWait := ⟨11, some t, true⟩

/-- The recessive bits in a row after which the line is idle: the gap's, and before it a delimiter's where one is due; the bits
of the mark itself are none of them (R3, R7, R15, R18). -/
def LineWait.need (w : LineWait) : Nat := min 11 w.bits

/-- `n` bit times can have passed since the event, `frac`/15625 into tick `now`. -/
def LineWait.passed (w : LineWait) (n rate : Nat) (now : Tick) (frac : Nat) : Bool :=
  match w.since with
  | none => true
  | some t => n * bitTime rate ≤ elapsed now t * 15625 + frac

/-- At tick `now` the bit times to an idle line are spent, once they have all passed. -/
def LineWait.spend (w : LineWait) (rate : Nat) (now : Tick) : LineWait :=
  { w with since := if w.passed w.bits rate now 0 then none else w.since }

/-- The part is neither sending nor receiving a parcel. -/
def LinePhase.free : LinePhase → Bool
  | .sending _ => false
  | .receiving => false
  | _ => true

/-! ### The send queue -/

/-- The tag of an entry, with the part's own station as source (R3, R24). -/
def Line.tag (l : Line) (e : TxEntry) : Nat := tagOf e.cls e.topic l.station

/-- An entry joins the queue at its place: behind every entry whose tag is not higher (R24). -/
def Line.insertTx (l : Line) (e : TxEntry) : List TxEntry → List TxEntry
  | [] => [e]
  | f :: fs => if l.tag e < l.tag f then e :: f :: fs else f :: l.insertTx e fs

/-- The oldest held item of each unit, in the order first held (R24). -/
def oldestHeld (seen : List UnitId) : List TxEntry → List TxEntry
  | [] => []
  | e :: es => if seen.contains e.owner then oldestHeld seen es else e :: oldestHeld (e.owner :: seen) es

/-- The entry of lowest tag, the first of equals. -/
def Line.lowestTag (l : Line) : List TxEntry → Option TxEntry
  | [] => none
  | e :: es =>
    match l.lowestTag es with
    | none => some e
    | some f => if l.tag f < l.tag e then some f else some e

/-- A list without the entries of a serial number. -/
def dropSerial (serial : Nat) (es : List TxEntry) : List TxEntry := es.filter (·.serial != serial)

/-- One held item joins the queue, if the queue has room and a unit holds one (R24). -/
def Line.takeHeld (l : Line) : Line :=
  if l.txq.length < 12 then
    match l.lowestTag (oldestHeld [] l.held) with
    | some e => { l with txq := l.insertTx e l.txq, held := l.held.erase e }
    | none => l
  else l

/-- At most `n` held items join the queue (R24). -/
def Line.refillBy : Nat → Line → Line
  | 0, l => l
  | n + 1, l => Line.refillBy n l.takeHeld

/-- Held items join the queue while there is room (R24). -/
def Line.refill (l : Line) : Line := Line.refillBy l.held.length l

/-- A unit offers a parcel: it joins the queue, or is kept as the unit's newest held item (R24). -/
def Line.offer (l : Line) (owner : UnitId) (cls topic : Nat) (payload : List Byte) (span : Option TxSpan) : Line :=
  Line.refill
    { l with
      nextSerial := l.nextSerial + 1
      held := l.held ++ [⟨l.nextSerial, owner, cls, topic, payload, span, false⟩] }

/-- A unit offers a parcel; in DOZE, one other than a CLAIM is an internal wake (R24, R155). -/
def State.offer (s : State) (owner : UnitId) (cls topic : Nat) (payload : List Byte) (span : Option TxSpan := none) :
    State :=
  let s := { s with line := s.line.offer owner cls topic payload span }
  if topic == 1 then s else s.internalWake

/-- The transceiver station named in SETUP (R210). -/
def State.transceiver (s : State) : Nat :=
  match s.cmd.setup with
  | some c => c.transceiver
  | none => 0

/-- The host station named in SETUP (R210). -/
def State.host (s : State) : Nat :=
  match s.cmd.setup with
  | some c => c.host
  | none => 0

/-- A parcel to the transceiver station, its fields after the destination given (section 10.5). -/
def State.offerRadio (s : State) (owner : UnitId) (cls topic : Nat) (fields : List Byte) : State :=
  s.offer owner cls topic (byte s.transceiver :: fields)

/-- The entry with this serial number is being sent. -/
def Line.isBeingSent (l : Line) (serial : Nat) : Bool :=
  match l.phase with
  | .sending a => a.serial == serial
  | _ => false

/-- The entry with this serial number is in the queue. -/
def Line.isQueued (l : Line) (serial : Nat) : Bool := l.txq.any (·.serial == serial)

/-- An entry leaves the queue, and held items take the room (R24). -/
def Line.dequeue (l : Line) (serial : Nat) : Line := Line.refill { l with txq := dropSerial serial l.txq }

/-- A unit asks for the removal of its parcel (R26): a held one is discarded, a queued one leaves at once, and one being
sent is marked, to leave when its attempt ends. -/
def Line.remove (l : Line) (serial : Nat) : Line :=
  if l.held.any (·.serial == serial) then { l with held := dropSerial serial l.held }
  else if l.isBeingSent serial then
    { l with txq := l.txq.map fun e => if e.serial == serial then { e with removal := true } else e }
  else if l.isQueued serial then l.dequeue serial
  else l

/-- A unit asks for the removal of its parcel (R26). -/
def State.remove (s : State) (serial : Nat) : State := { s with line := s.line.remove serial }

/-- The removal of every entry of a kind is asked for at once (R26, R39, R159): the held ones are discarded, the queued ones
leave, one being sent is marked, to leave when its attempt ends, and held items take the room (R24). -/
def Line.removeAll (l : Line) (p : TxEntry → Bool) : Line :=
  Line.refill
    { l with
      txq := (l.txq.filter fun e => !p e || l.isBeingSent e.serial).map fun e =>
        if p e then { e with removal := true } else e
      held := l.held.filter fun e => !p e }

/-- The removal of every entry of a kind is asked for at once (R26, R39, R159). -/
def State.removeAll (s : State) (p : TxEntry → Bool) : State := { s with line := s.line.removeAll p }

/-- An order or request that is still in the send path is removed or discarded; one sent or unbuilt is not there. -/
def State.removeReq (s : State) : ReqState → State
  | .offered serial => s.remove serial
  | _ => s

/-- Whether an order or request is still queued or held (R103, R106, R116). -/
def ReqState.isOffered : ReqState → Bool
  | .offered _ => true
  | _ => false

/-- "sent" told for the entry an order or request names; one told for an earlier entry is disregarded (assumption log,
entry 17). -/
def ReqState.toldSent (r : ReqState) (serial : Nat) : ReqState := if r == .offered serial then .sent else r

/-! ### The reception queue -/

/-- The ring bytes of a record: its payload and 2 more (R29). -/
def RxRecord.bytes (r : RxRecord) : Nat := r.payload.length + 2

/-- The ring bytes held by records (R29). -/
def rxUsed (q : List RxRecord) : Nat := (q.map RxRecord.bytes).sum

/-- The free bytes of the reception queue (R29). -/
def Line.rxFree (l : Line) : Nat := 640 - rxUsed l.rxq

/-- The unit completes the handling of the oldest record, and its bytes are freed (R30). -/
def State.completeRecord (s : State) : State := { s with line := { s.line with rxq := s.line.rxq.tail } }

/-- The entitlement of a source to a topic (R28): CLAIM and WITHDRAW from any station; a host topic from the host, or from
any station before SETUP; a transceiver topic from the transceiver, and from none before SETUP. -/
def State.entitled (s : State) (topic source : Nat) : Bool :=
  if topic == 1 || topic == 2 then true
  else if isHostTopic topic then
    match s.cmd.setup with
    | some c => source == c.host
    | none => true
  else if isTransceiverTopic topic then
    match s.cmd.setup with
    | some c => source == c.transceiver
    | none => false
  else false

/-- A completed parcel is accepted: destination, source, topic and entitlement (R28). -/
def State.accepts (s : State) (topic source : Nat) (payload : List Byte) : Bool :=
  match payload with
  | [] => false
  | d :: _ => (d.toNat == s.line.station || d.toNat == 255) && source != s.line.station && s.entitled topic source

end Sys2Proof.Machine
end

