-- ==== Sys2Proof/Machine/Flags.lean ====
section
/-! DEFINITION. The part's flags to the outside: the pending notice list (R41, R42), and the two tallies with the line state
derived from them (R19 to R23). -/

namespace Sys2Proof.Machine

/-! ### Notices -/

/-- The SETUP record enables the kind (R41). -/
def State.enabled (s : State) (k : NoticeKind) : Bool :=
  match s.cmd.setup with
  | some c => c.mask.getLsbD k.code
  | none => false

/-- A count that stays at 255 once there (R41). -/
def bump255 (n : Nat) : Nat := min 255 (n + 1)

/-- An event coalesced into its kind's entry: into the count while not offered, into the follow-on count once offered (R41). -/
def NoticeEntry.coalesce (e : NoticeEntry) (detail : List Byte) : NoticeEntry :=
  if e.offered then { e with follow := bump255 e.follow, followDetail := detail }
  else { e with count := bump255 e.count, detail := detail }

/-- An event recorded in the list (R41). -/
def recordNotice (k : NoticeKind) (detail : List Byte) (l : List NoticeEntry) : List NoticeEntry :=
  if l.any (·.kind == k) then l.map fun e => if e.kind == k then e.coalesce detail else e
  else l ++ [⟨k, 1, detail, false, 0, []⟩]

/-- The entry to offer next: the lowest class, then the lowest kind number, among those not offered (R42). -/
def nextNotice : List NoticeEntry → Option NoticeEntry
  | [] => none
  | e :: es =>
    match nextNotice es with
    | none => if e.offered then none else some e
    | some f => if !e.offered && e.kind.cls * 16 + e.kind.code < f.kind.cls * 16 + f.kind.code then some e else some f

/-- The payload of a NOTICE (section 10.4). -/
def State.noticePayload (s : State) (e : NoticeEntry) : List Byte :=
  [byte s.host, byte e.kind.code, byte e.count] ++ pad8 e.detail

/-- A NOTICE is built when none is outstanding, the list holds an entry not offered, and no host command is being handled
(R42; assumption log, entry 8). -/
def State.buildNotice (s : State) : State :=
  if s.cmd.handling || s.cmd.noticeOut.isSome then s
  else
    match nextNotice s.cmd.notices with
    | none => s
    | some e =>
      let s' : State :=
        { s with cmd :=
          { s.cmd with
            notices := s.cmd.notices.map fun f => if f.kind == e.kind then { f with offered := true } else f
            noticeOut := some ⟨s.line.nextSerial, e.kind, false⟩ } }
      s'.offer .command e.kind.cls 33 (s.noticePayload e)

/-- A unit raises an event (R41). One recorded in DOZE is an internal wake (R155). The NOTICE is built when the handling ends,
so that the events of one handling are all counted in it (R183, R204; assumption log, entry 22). -/
def State.raise (s : State) (k : NoticeKind) (detail : List Byte) : State :=
  if s.enabled k then { s with cmd := { s.cmd with notices := recordNotice k detail s.cmd.notices } }.internalWake else s

/-- What becomes of an entry whose NOTICE was sent: removed, or fresh with its follow-on count (R42). -/
def sentNotice (k : NoticeKind) : List NoticeEntry → List NoticeEntry
  | [] => []
  | e :: es =>
    if e.kind == k then
      if e.follow == 0 then sentNotice k es
      else ⟨e.kind, e.follow, e.followDetail, false, 0, []⟩ :: sentNotice k es
    else e :: sentNotice k es

/-- The line interface reports the outstanding NOTICE sent or removed unsent; the next one is built when the handling ends
(R42). -/
def State.noticeGone (s : State) (serial : Nat) (sent : Bool) : State :=
  match s.cmd.noticeOut with
  | none => s
  | some o =>
    if o.serial != serial then s
    else
      { s with cmd :=
        { s.cmd with
          noticeOut := none
          notices := if sent && !o.void then sentNotice o.kind s.cmd.notices else s.cmd.notices } }

/-- The end of a handling that recorded events or ended the outstanding NOTICE: the next NOTICE is built (R42). -/
def State.tellHost (s : State) (before : Command) : State :=
  if s.cmd.notices == before.notices && s.cmd.noticeOut == before.noticeOut then s else s.buildNotice

/-! ### Tallies and line state -/

/-- The line state the two tallies give (R21). -/
def deriveLineState (sendTally listenTally : Nat) : LineState :=
  if 192 ≤ sendTally then .detached
  else if sendTally ≤ 95 && listenTally ≤ 95 then .vocal
  else .muted

/-- The tallies take new values and the line state is derived afresh; LINE-STATE is raised at a change of it (R21). A
change to VOCAL ends the extra wait (R22), and entering DETACHED clears the recovery count (R23). -/
def State.setTallies (s : State) (sendTally listenTally : Nat) : State :=
  let st := deriveLineState sendTally listenTally
  let s' : State :=
    { s with line :=
      { s.line with
        sendTally := sendTally
        listenTally := listenTally
        state := st
        extraWait := if st == .vocal && s.line.state != .vocal then 0 else s.line.extraWait
        recoveryCount := if st == .detached && s.line.state != .detached then 0 else s.line.recoveryCount } }
  if st == s.line.state then s' else s'.raise .lineState [byte st.code, byte sendTally, byte listenTally]

/-- The send tally rises; a DETACHED station's does not (R19, R21). -/
def State.sendRise (s : State) (n : Nat) : State :=
  if s.line.state == .detached then s else s.setTallies (s.line.sendTally + n) s.line.listenTally

/-- The listen tally rises, to 127 at most (R19). -/
def State.listenRise (s : State) (n : Nat) : State :=
  if s.line.state == .detached then s else s.setTallies s.line.sendTally (min 127 (s.line.listenTally + n))

/-- An own parcel is complete: the send tally falls by 1 (R20). -/
def State.sendFall (s : State) : State := s.setTallies (s.line.sendTally - 1) s.line.listenTally

/-- The listen tally after a parcel received and echoed (R20). -/
def listenAfterReceipt (n : Nat) : Nat := if 95 < n then 90 else n - 1

/-- A parcel is complete as a receiver and was echoed (R20). -/
def State.listenFall (s : State) : State := s.setTallies s.line.sendTally (listenAfterReceipt s.line.listenTally)

end Sys2Proof.Machine
end

