-- ==== Sys2Proof/Machine/Airtime.lean ====
section
/-! DEFINITION. The airtime scheduler's operations: placing, displacing, announcing, releasing and clearing own windows, and
the peer claim list (R52 to R73). -/

namespace Sys2Proof.Machine

/-! ### The plan -/

/-- The own window with this id. -/
def State.window? (s : State) (id : Nat) : Option Window := s.air.plan.find? (·.id == id)

/-- The own window a unit names by an optional id. -/
def State.windowOf (s : State) (id : Option Nat) : Option Window := id.bind s.window?

/-- A window put into the plan, in order of start tick (R53). -/
def insertWindow (w : Window) : List Window → List Window
  | [] => [w]
  | v :: vs => if earlier w.start v.start then w :: v :: vs else v :: insertWindow w vs

/-- A window leaves the plan. -/
def State.leavePlan (s : State) (id : Nat) : State :=
  { s with air := { s.air with plan := s.air.plan.filter (·.id != id) } }

/-- A window of the plan is changed in place. -/
def State.modWindow (s : State) (id : Nat) (f : Window → Window) : State :=
  { s with air := { s.air with plan := s.air.plan.map fun w => if w.id == id then f w else w } }

/-- An item outranks a window: a more urgent class, or the same class from a lower station (R58). -/
def outranks (cls station cls' station' : Nat) : Bool := cls < cls' || (cls == cls' && station < station')

/-- The scheduler reports on a window to its requesting unit (R56). -/
def State.reportWindow (s : State) (w : Window) (r : Report) : State := s.push (.report w.owner w.kind w.id r)

/-! ### Announcing -/

/-- A window's CLAIM is offered, and the window is OFFERED (R63). The offsets are written at each attempt (R27). -/
def State.offerClaim (s : State) (w : Window) : State :=
  (s.modWindow w.id fun v => { v with state := .offered, claim := some s.line.nextSerial }).offer .airtime w.cls 1
    [255, byte w.id, byte w.kind.code, 0, 0, 0, 0] (some (.claim w.start w.stop))

/-- A WITHDRAW is offered: as a cut with its new end, or as a removal with none (R68). -/
def State.offerWithdraw (s : State) (id cls : Nat) (newEnd : Option Tick) : State :=
  s.offer .airtime cls 2 [255, byte id, 0, 0] (some (.withdraw newEnd))

/-- The CLAIM of an OFFERED window that leaves the plan: discarded if held, its removal requested if queued, and a WITHDRAW
owed if it is being sent (R67, R68). -/
def State.dropClaim (s : State) (w : Window) : State :=
  match w.claim with
  | none => s
  | some serial =>
    let s := s.remove serial
    if s.line.isBeingSent serial then
      { s with air := { s.air with owed := s.air.owed ++ [⟨serial, w.id, w.cls⟩] } }
    else s

/-- What goes on the line when a window is gone before its end (R67, R71, R73). -/
def State.retract (s : State) (w : Window) : State :=
  match w.state with
  | .planned => s
  | .offered => s.dropClaim w
  | .standing => s.offerWithdraw w.id w.cls none
  | .active => s.offerWithdraw w.id w.cls none

/-! ### Giving way -/

/-- The window is ACTIVE and ends on tick `t` (R66). -/
def Window.endsOn (w : Window) (t : Tick) : Bool := w.state == .active && w.stop == t

/-- A window is cut: this one alone takes the new end (R61, R71). -/
def State.cutWindow (s : State) (w : Window) (by_ : GaveWay) (stop : Tick) : State :=
  { s with air := { s.air with plan := s.air.plan.map fun v => if v == w then { v with stop := stop, cut := some by_ } else v } }

/-- A window that is not ACTIVE yields; an ACTIVE one is cut to end at `stop`, or at once if that tick is not later than now
(R61, R71). R61 and R62 do not say what becomes of the CLAIM of an OFFERED window that yields to an own request: it goes as R67,
R71 and R73 have it go, discarded if held, removed if queued, and followed by a WITHDRAW if it is being sent (DEDUCED; assumption
log, entry 42). -/
def State.giveWay (s : State) (w : Window) (by_ : GaveWay) (stop : Tick) : State :=
  if w.state == .active then
    if later stop s.now then
      ((s.cutWindow w by_ stop).offerWithdraw w.id w.cls (some stop)).reportWindow w (.shortened stop)
    else ((s.leavePlan w.id).retract w).reportWindow w (.outcome (.cut by_))
  else ((s.leavePlan w.id).retract w).reportWindow w (.outcome (.yielded by_))

/-- Several windows give way, in order of start tick (R56). -/
def State.allGiveWay (s : State) (ws : List Window) (by_ : GaveWay) (stop : Tick) : State :=
  ws.foldl (fun s w => s.giveWay w by_ stop) s

/-! ### Placing a request -/

/-- A unit's request for a window (R57): fixed with its span, or floating with a length, an earliest and a latest start. -/
inductive Request where
  | fixed (kind : WinKind) (owner : UnitId) (start stop : Tick)
  | floating (kind : WinKind) (owner : UnitId) (len : Nat) (earliest : Tick) (latest : Option Tick)
  deriving DecidableEq, Repr

/-- The answer to a request (R56). -/
inductive Placed where
  | placed (id : Nat) (start stop : Tick)
  | blocked
  | full
  deriving DecidableEq, Repr

/-- The spans of the obstacles of a request of a class: outranking peer claims, and own windows of an equal or more urgent
class (R58). -/
def State.obstacles (s : State) (cls : Nat) : List (Tick × Tick) :=
  ((s.air.peers.filter fun c => outranks c.cls c.station cls s.line.station).map fun c => (c.start, c.stop))
    ++ ((s.air.plan.filter fun w => w.cls ≤ cls).map fun w => (w.start, w.stop))

/-- The obstacles that overlap a span. -/
def hits (obs : List (Tick × Tick)) (start stop : Tick) : List (Tick × Tick) :=
  obs.filter fun o => overlap start stop o.1 o.2

/-- The latest end of a list of spans. -/
def latestEnd (t : Tick) (obs : List (Tick × Tick)) : Tick := obs.foldl (fun t o => laterOf o.2 t) t

/-- The earliest clear start: while an obstacle overlaps the trial span, the trial start moves to the latest end among those
that overlap it (R60). Each move leaves an obstacle behind, so as many moves as obstacles are enough. -/
def clearStart (obs : List (Tick × Tick)) (len : Nat) : Nat → Tick → Option Tick
  | 0, _ => none
  | n + 1, t =>
    match hits obs t (after t len) with
    | [] => some t
    | o :: os => clearStart obs len n (latestEnd o.2 os)

/-- The span at which a request is placed, or none if it is refused BLOCKED (R57, R59, R60). -/
def State.place (s : State) : Request → Option (Tick × Tick)
  | .fixed kind _ start stop =>
    if earlier start (after s.now 99) || later start (after s.now (2 ^ 30)) then none
    else if (hits (s.obstacles kind.cls) start stop).isEmpty then some (start, stop) else none
  | .floating kind _ len earliest latest =>
    if later earliest (after s.now (2 ^ 30)) || latest.any (fun l => earlier l (after s.now 99)) then none
    else
      let obs := s.obstacles kind.cls
      match clearStart obs len (obs.length + 1) (laterOf earliest (after s.now 99)) with
      | none => none
      | some t => if latest.any (fun l => later t l) then none else some (t, after t len)

/-- The window given up for room: of the least urgent class, and in it the latest start (R62). -/
def giveUp : List Window → Option Window
  | [] => none
  | w :: ws =>
    match giveUp ws with
    | none => some w
    | some v => if v.cls < w.cls || (v.cls == w.cls && later w.start v.start) then some w else some v

/-- The ids that a new window passes over: those in the plan, and those with a WITHDRAW owed, queued or held (R54). -/
def State.idTaken (s : State) (id : Nat) : Bool :=
  s.air.plan.any (·.id == id) || s.air.owed.any (·.id == id)
    || (s.line.txq ++ s.line.held).any fun e => e.topic == 2 && u8 e.payload 1 == id

/-- The next id after the counter, 1 to 255 and then 1 again, not passed over (R54). -/
def State.nextId (s : State) : Nat → Nat → Nat
  | 0, id => id
  | n + 1, id => if s.idTaken id then s.nextId n (id % 255 + 1) else id

/-- The kind of a request. -/
def Request.kind : Request → WinKind
  | .fixed k _ _ _ => k
  | .floating k _ _ _ _ => k

/-- The requesting unit. -/
def Request.owner : Request → UnitId
  | .fixed _ o _ _ => o
  | .floating _ o _ _ _ => o

/-- Whether a request is fixed or floating. -/
def Request.placement : Request → Placement
  | .fixed _ _ _ _ => .fixed
  | .floating _ _ _ _ _ => .floating

/-- The own windows that give way to a request placed at a span, in order of start tick, with the one given up for room; none
if the plan has no room for it (R61, R62). -/
def State.displaced (s : State) (cls : Nat) (start stop : Tick) : Option (List Window) :=
  let hit : Window → Bool := fun w => cls < w.cls && overlap start stop w.start w.stop
  let yields := s.air.plan.filter fun w => hit w && w.state != .active
  if s.air.plan.length - yields.length + 1 ≤ 8 then some (s.air.plan.filter hit)
  else
    match giveUp (s.air.plan.filter fun w => w.state != .active && !hit w) with
    | some v => if cls < v.cls then some (s.air.plan.filter fun w => hit w || w.id == v.id) else none
    | none => none

/-- The new window joins the plan PLANNED, and is OFFERED at once if its start is within 32768 ticks (R62, R63). -/
def State.addWindow (s : State) (r : Request) (start stop : Tick) : State × Placed :=
  let id := s.nextId 255 (s.air.idCounter % 255 + 1)
  let w : Window :=
    { id := id, kind := r.kind, cls := r.kind.cls, placement := r.placement, start := start, stop := stop,
      state := .planned, owner := r.owner, echoed := false, cut := none, claim := none }
  let s : State := { s with air := { s.air with plan := insertWindow w s.air.plan, idCounter := id } }
  (if later start (after s.now 32768) then s else s.offerClaim w, .placed id start stop)

/-- A unit requests a window (R57 to R63). A refused request changes nothing. -/
def State.request (s : State) (r : Request) : State × Placed :=
  match s.place r with
  | none => (s, .blocked)
  | some (start, stop) =>
    match s.displaced r.kind.cls start stop with
    | none => (s, .full)
    | some ws => (s.allGiveWay ws .own start).addWindow r start stop

/-- What a unit does with the answer to its request: with the window placed, or refused, BLOCKED or not (R56). -/
def answered {β : Type} (x : State × Placed) (placed : State → Nat → Tick → Tick → β) (refused : State → Bool → β) : β :=
  match x with
  | (s, .placed id start stop) => placed s id start stop
  | (s, .blocked) => refused s true
  | (s, .full) => refused s false

/-- The own windows that a request will displace (R61, R62). -/
def State.displacedBy (s : State) (r : Request) : List Window :=
  match s.place r with
  | none => []
  | some (start, stop) => (s.displaced r.kind.cls start stop).getD []

/-- A unit requests a window and acts on the answer. It is told "placed" after the units of the windows its request displaced
are told their outcomes (R61), and where none was displaced at once. -/
def State.ask (s : State) (r : Request) (w : Waiter) (placed : State → Nat → Tick → Tick → State)
    (refused : State → Bool → State) : State :=
  answered (s.request r)
    (fun t id start stop => if (s.displacedBy r).isEmpty then placed t id start stop else t.push (.placed w id start stop))
    refused

/-! ### Ends of windows -/

/-- A window that could not stand in time lapses; a CLAIM sent late is withdrawn (R64, R65). -/
def State.lapse (s : State) (w : Window) (late : Bool) : State :=
  let s := s.leavePlan w.id
  (if late then s.offerWithdraw w.id w.cls none else s).reportWindow w (.outcome (.lapsed late))

/-- A window's CLAIM was sent with its tail ending at `tail`: STANDING if no later than start − 66, else lapsed LATE (R64). -/
def State.claimSent (s : State) (serial : Nat) (tail : Tick) : State :=
  match s.air.plan.find? (fun w => w.claim == some serial && w.state == .offered) with
  | some w =>
    if notLater tail (before w.start 66) then
      (s.modWindow w.id fun v => { v with state := .standing, echoed := true }).reportWindow w .standing
    else s.lapse w true
  | none =>
    match s.air.owed.find? (·.serial == serial) with
    | some o =>
      State.offerWithdraw { s with air := { s.air with owed := s.air.owed.filter (·.serial != serial) } } o.id o.cls none
    | none => s

/-- A window's CLAIM left the send queue unsent: the window lapses UNSENT, or nothing is owed any longer (R65, R68). -/
def State.claimUnsent (s : State) (serial : Nat) : State :=
  match s.air.plan.find? (fun w => w.claim == some serial && w.state == .offered) with
  | some w => s.lapse w false
  | none => { s with air := { s.air with owed := s.air.owed.filter (·.serial != serial) } }

/-- The plan is cleared: STANDING and ACTIVE windows are withdrawn, CLAIMs dropped, and no unit is told (R73). -/
def State.clearPlan (s : State) : State :=
  let ws := s.air.plan
  ws.foldl (fun s w => s.retract w) { s with air := { s.air with plan := [] } }

/-! ### The peer claim list -/

/-- A claim put into the list, in order of start tick (R69), behind those that start on the same tick (assumption log, entry
34). -/
def insertClaim (c : Claim) : List Claim → List Claim
  | [] => [c]
  | d :: ds => if earlier c.start d.start then c :: d :: ds else d :: insertClaim c ds

/-- Two claims share a key (R69). -/
def Claim.sameKey (c d : Claim) : Bool := c.station == d.station && c.id == d.id

/-- The first claim goes before the second when a full list drops one: the less urgent class, then the latest start, then the
highest station, then the highest window id (R70). -/
def Claim.droppedBefore (c d : Claim) : Bool :=
  if c.cls != d.cls then d.cls < c.cls
  else if c.start != d.start then later c.start d.start
  else if c.station != d.station then d.station < c.station
  else d.id < c.id

/-- The claim a full list drops, among the stored claims and the new one (R70). -/
def pickDrop (c : Claim) (ds : List Claim) : Claim := ds.foldl (fun p d => if d.droppedBefore p then d else p) c

/-- A claim stored in the list, replacing one with its key or dropping one of a full list; none if it is the one dropped
(R70). -/
def storeClaim (c : Claim) (ds : List Claim) : Option (List Claim) :=
  let others := ds.filter fun d => !d.sameKey c
  if ds.any (·.sameKey c) || ds.length < 24 then some (insertClaim c others)
  else
    let p := pickDrop c ds
    if p == c then none else some (insertClaim c (ds.filter fun d => !d.sameKey p))

/-- A stored claim displaces the own windows that it outranks (R71). One that arrives on the tick of an ACTIVE window's end, taken
before that end, cuts that window to end at once (R66), whatever its start (DEDUCED; assumption log, entry 39); and every window
of the plan that it overlaps gives way to its start. -/
def State.displaceFor (s : State) (c : Claim) (arrival : Tick) : State :=
  let above : Window → Bool := fun w => outranks c.cls c.station w.cls s.line.station
  let s := s.allGiveWay (s.air.plan.filter fun w => above w && w.endsOn arrival) (.peer c.station) s.now
  s.allGiveWay (s.air.plan.filter fun w => above w && overlap c.start c.stop w.start w.stop) (.peer c.station) c.start

/-- A WITHDRAW for a claim: a cut offset of 0 removes it, another shortens or removes it, and never lengthens it (R72). -/
def withdrawClaim (station id cut : Nat) (arrival : Tick) (ds : List Claim) : List Claim :=
  ds.filterMap fun d =>
    if d.station == station && d.id == id then
      let newEnd := after arrival cut
      if cut == 0 || notLater newEnd d.start then none
      else if earlier newEnd d.stop then some { d with stop := newEnd }
      else some d
    else some d

end Sys2Proof.Machine
end

