-- ==== Sys2Proof/Machine/Uplink.lean ====
section
/-! DEFINITION. The handover unit's shared operations: members leaving the reported set, the reset of the connected ranking
(R124), and the held uplink list (R137). -/

namespace Sys2Proof.Machine

/-- The HANDOVER-REPORT queued or held is removed or discarded (R124, R126). -/
def State.dropReport (s : State) : State :=
  match s.ho.report with
  | none => s
  | some serial =>
    let s := s.remove serial
    { s with ho := { s.ho with report := none } }

/-- The set has become empty by a departure: no next report, and none queued or held (R124). -/
def State.setEmptied (s : State) : State :=
  if s.ho.reported.isEmpty then
    let s := s.dropReport
    { s with ho := { s.ho with nextReport := none } }
  else s

/-- A record has left the cell table, whatever the reason: it leaves the reported set without a report (R76, R124). -/
def State.memberLeft (s : State) (key : CellKey) (_ : LeaveReason) : State :=
  if s.ho.reported.contains key then
    State.setEmptied { s with ho := { s.ho with reported := s.ho.reported.filter (· != key) } }
  else s

/-- The connected ranking is reset (R124). -/
def State.rankingReset (s : State) : State :=
  let s := s.dropReport
  { s with
    ho := { s.ho with reported := [], count := 0, nextReport := none }
    meas := { s.meas with cells := s.meas.cells.map fun c => { c with betterSince := none } } }

/-- Uplink goes to the held uplink list in these states (R137). -/
def State.inSwitch (s : State) : Bool := s.svc.state == .switching || s.svc.state == .returning

/-- The free places of the held uplink list (R137). -/
def State.uplinkFree (s : State) : Nat := 8 - s.ho.uplink.length

/-- During a switch, a command that would produce `n` parcels finds fewer free places (R137). -/
def State.noRoom (s : State) (n : Nat) : Bool := s.inSwitch && s.uplinkFree < n

/-- A call or text unit's parcel: offered to the send queue, or during a switch appended to the held uplink list; the second
component says that a full list dropped it (R137). -/
def State.uplink (s : State) (owner : UnitId) (topic : Nat) (fields : List Byte) : State × Bool :=
  let payload := byte s.transceiver :: fields
  if s.inSwitch then
    if s.ho.uplink.length < 8 then ({ s with ho := { s.ho with uplink := s.ho.uplink ++ [⟨owner, topic, payload⟩] } }, false)
    else (s, true)
  else (s.offer owner 2 topic payload, false)

/-- The held uplink list is released: each parcel is offered by its unit, in the order held (R137). -/
def State.releaseUplink (s : State) : State :=
  let ups := s.ho.uplink
  ups.foldl (fun s u => s.offer u.owner 2 u.topic u.payload) { s with ho := { s.ho with uplink := [] } }

/-- The held uplink list is discarded (R137). -/
def State.discardUplink (s : State) : State := { s with ho := { s.ho with uplink := [] } }

end Sys2Proof.Machine
end

