-- ==== Sys2Proof/Machine/Cells.lean ====
section
/-! DEFINITION. The cell table: samples and the filter (R86 to R89), admission and eviction (R80 to R82), penalties and
barring (R84, R85), and the round records of measurement rounds (R90 to R94). -/

namespace Sys2Proof.Machine

/-! ### The table -/

/-- The record with this key. -/
def findCell (cells : List Cell) (k : CellKey) : Option Cell := cells.find? (·.key == k)

/-- The record with this key. -/
def State.cell? (s : State) (k : CellKey) : Option Cell := findCell s.meas.cells k

/-- The SERVING record, if there is one (R76). -/
def State.serving? (s : State) : Option Cell := s.meas.cells.find? (·.role == .serving)

/-- A record of the table is changed in place. -/
def State.modCell (s : State) (k : CellKey) (f : Cell → Cell) : State :=
  { s with meas := { s.meas with cells := s.meas.cells.map fun c => if c.key == k then f c else c } }

/-- A newly made record (R75). -/
def Cell.fresh (k : CellKey) (role : Role) (offset : Int) : Cell where
  key := k
  role := role
  before := none
  barredUntil := none
  level := none
  quality := none
  samples := 0
  offset := offset
  penalty := 0
  penaltyUntil := none
  betterSince := none
  misses := 0
  lastSample := none

/-- A record is added to the table. -/
def State.addCell (s : State) (c : Cell) : State := { s with meas := { s.meas with cells := s.meas.cells ++ [c] } }

/-- The service controller learns that a record has left the table, whatever the reason: it is a scan candidate no longer, so
that the judgement passes it over (R76, R105). -/
def State.candidateLeft (s : State) (k : CellKey) (_ : LeaveReason) : State :=
  { s with svc :=
    { s.svc with scan := s.svc.scan.map fun c => { c with candidates := c.candidates.filter (· != k) } } }

/-- A record leaves the table, and the service controller and the handover unit are told its key and the reason (R76). -/
def State.dropCell (s : State) (k : CellKey) (why : LeaveReason) : State :=
  (State.candidateLeft { s with meas := { s.meas with cells := s.meas.cells.filter (·.key != k) } } k why).memberLeft k why

/-- Key order: by channel, then by beacon code. -/
def keyBelow (a b : CellKey) : Bool := a.channel < b.channel || (a.channel == b.channel && a.beacon < b.beacon)

/-- The first level is lower than the second, where an absent level counts lowest (R82). -/
def levelBelow (a b : Option Int) : Bool :=
  match a, b with
  | none, some _ => true
  | some x, some y => x < y
  | _, none => false

/-- The first tick is earlier than the second, where an absent tick counts earliest (R82). -/
def tickBelow (a b : Option Tick) : Bool :=
  match a, b with
  | none, some _ => true
  | some x, some y => earlier x y
  | _, none => false

/-- The first record is weaker: lower level, then earlier last sample, then higher key (R82). -/
def Cell.weaker (a b : Cell) : Bool :=
  levelBelow a.level b.level || (a.level == b.level &&
    (tickBelow a.lastSample b.lastSample || (a.lastSample == b.lastSample && keyBelow b.key a.key)))

/-- The weakest of a list of records (R82). -/
def weakest : List Cell → Option Cell
  | [] => none
  | c :: cs =>
    match weakest cs with
    | none => some c
    | some d => if d.weaker c then some d else some c

/-- The weakest FOUND record (R82). -/
def State.weakestFound (s : State) : Option Cell := weakest (s.meas.cells.filter (·.role == .found))

/-- A cell the neighbour list names is admitted as LISTED, evicting a FOUND record of a full table (R80 step 3, R82). -/
def State.admitListed (s : State) (k : CellKey) (offset : Int) : State :=
  if s.meas.cells.length < 16 then s.addCell (Cell.fresh k .listed offset)
  else
    match s.weakestFound with
    | some w => (s.dropCell w.key .evicted).addCell (Cell.fresh k .listed offset)
    | none => s

/-! ### Samples -/

/-- A value brought into a range, one outside being taken as the nearer end. -/
def clampInt (lo hi v : Int) : Int := if v < lo then lo else if hi < v then hi else v

/-- The effective k: the base reduced by the mobility state, not below 0 (R89). -/
def effectiveK (base : Nat) : Mobility → Nat
  | .normal => base
  | .medium => base - 1
  | .high => base - 2

/-- One update of a filtered value toward a sample in 1/16 dB: the step is floor(d / 2^k), limited in size, and the result is
brought into its range (R87, R88). -/
def filterStep (limit lo hi : Int) (k : Nat) (old : Option Int) (sample : Int) : Int :=
  match old with
  | none => sample
  | some v => clampInt lo hi (v + clampInt (-limit) limit ((sample - v).fdiv (2 ^ k)))

/-- The level filter, of a clamped sample in whole dB (R87). -/
def filterLevel (k : Nat) (old : Option Int) (m : Int) : Int := filterStep 192 (-2240) (-704) k old (16 * m)

/-- The quality filter, of a clamped sample in half dB (R88). -/
def filterQuality (k : Nat) (old : Option Int) (q : Int) : Int := filterStep 96 (-384) 0 k old (8 * q)

/-- A clamped sample filtered into a record (R86 to R88). -/
def Cell.sampled (c : Cell) (k : Nat) (m q : Int) (arrival : Tick) : Cell :=
  { c with
    level := some (filterLevel k c.level m)
    quality := some (filterQuality k c.quality q)
    samples := min 255 (c.samples + 1)
    misses := 0
    lastSample := some arrival }

/-- A sample as a report carries it. -/
structure Sample where
  key : CellKey
  level : Int
  quality : Int
  deriving DecidableEq, Repr

/-- The sample clamped (R86). -/
def Sample.clamped (p : Sample) : Sample :=
  { p with level := clampInt (-140) (-44) p.level, quality := clampInt (-48) 0 p.quality }

/-- A sample is clamped and used on its record; a key not in the table is admitted as FOUND when there is room or it is
stronger than the weakest FOUND record (R81, R86). -/
def State.useSample (s : State) (k : Nat) (arrival : Tick) (p : Sample) : State :=
  let p := p.clamped
  match s.cell? p.key with
  | some c => if c.role == .barred then s else s.modCell p.key fun c => c.sampled k p.level p.quality arrival
  | none =>
    let new := (Cell.fresh p.key .found 0).sampled k p.level p.quality arrival
    if s.meas.cells.length < 16 then s.addCell new
    else
      match s.weakestFound with
      | some w => if levelBelow w.level (some (16 * p.level)) then (s.dropCell w.key .evicted).addCell new else s
      | none => s

/-- The samples of `n` entries of `width` bytes from byte `i` of a report (section 10.5). -/
def samplesAt (p : List Byte) (i width n : Nat) : List Sample :=
  (List.range n).map fun j =>
    { key := keyAt p (i + width * j), level := levelAt p (i + width * j + 3), quality := i8 p (i + width * j + 4) }

/-! ### Marks -/

/-- "Penalise" a key for 983040 ticks, unless it is SERVING or not in the table (R84). -/
def State.penalise (s : State) (k : CellKey) : State :=
  s.modCell k fun c =>
    if c.role == .serving then c else { c with penalty := 16, penaltyUntil := some (after s.now 983040) }

/-- A record's barring begins or is prolonged to 9830400 ticks from now (R85). -/
def Cell.bar (c : Cell) (now : Tick) : Cell :=
  match c.role with
  | .serving => c
  | .barred => { c with barredUntil := some (after now 9830400) }
  | r =>
    { c with
      role := .barred, before := some r, barredUntil := some (after now 9830400), betterSince := none, misses := 0 }

/-- "Bar" a key, unless it is SERVING or not in the table (R85). -/
def State.bar (s : State) (k : CellKey) : State := s.modCell k fun c => c.bar s.now

/-- The barring ends: the role before it, and the values cleared (R85). -/
def Cell.unbar (c : Cell) : Cell :=
  { c with
    role := c.before.getD .found, before := none, barredUntil := none, level := none, quality := none, samples := 0,
    misses := 0, lastSample := none }

/-! ### Rounds -/

/-- The scope of a round (R90). -/
def State.roundSize (s : State) (full : Bool) : Nat :=
  if full then min 16 (max 1 (s.meas.cells.filter (·.role != .barred)).length) else 1

/-- The round record of a window id. -/
def State.round? (s : State) (id : Nat) : Option Round := s.meas.rounds.find? (·.id == id)

/-- A round record is changed in place. -/
def State.modRound (s : State) (id : Nat) (f : Round → Round) : State :=
  { s with meas := { s.meas with rounds := s.meas.rounds.map fun r => if r.id == id then f r else r } }

/-- A miss counted on a record (R94). A FOUND record at 4 misses is left for removal. -/
def Cell.miss (c : Cell) : Cell :=
  if c.misses + 1 < 4 then { c with misses := c.misses + 1 }
  else if c.role == .listed then
    { c with level := none, quality := none, samples := 0, betterSince := none, lastSample := none, misses := 0 }
  else { c with misses := 4 }

/-- The misses of a completed round, cell by cell of its order list (R94). -/
def State.countMisses (s : State) (reported : List CellKey) : List CellKey → State
  | [] => s
  | k :: ks =>
    let s' : State :=
      match s.cell? k with
      | none => s
      | some c =>
        if c.role == .serving || c.role == .barred || reported.contains k then s
        else if c.role == .found && 4 ≤ c.misses + 1 then s.dropCell k .missed
        else s.modCell k Cell.miss
    s'.countMisses reported ks

/-- A round ends, completed or skipped: its record is removed, a MEASURE-ORDER still offered is removed or discarded, misses
are counted for a completed round, and the service controller is told (R91, R93, R94). -/
def State.endRound (s : State) (r : Round) (skip : Option SkipReason) : State :=
  let s := s.removeReq r.req
  let s : State := { s with meas := { s.meas with rounds := s.meas.rounds.filter (·.id != r.id) } }
  let s := if skip.isNone then s.countMisses r.reported (r.order.getD []) else s
  s.push (.roundDone r.id skip)

/-- A round record put into the list, in order of window start (R90). -/
def insertRound (r : Round) : List Round → List Round
  | [] => [r]
  | q :: qs => if earlier r.start q.start then r :: q :: qs else q :: insertRound r qs

/-- A MEASURE window was placed: its round record is made, ending the earliest of four held as skipped SILENT (R90). -/
def State.addRound (s : State) (id : Nat) (start stop : Tick) : State :=
  let len := elapsed stop start
  let r : Round :=
    { id := id, start := start, len := len, capacity := min 16 ((len - 33) / 16), order := none, req := .unbuilt,
      reported := [], lastTaken := false, outcome := none, silence := none }
  let s :=
    match s.meas.rounds with
    | q :: _ => if 4 ≤ s.meas.rounds.length then s.endRound q (some .silent) else s
    | [] => s
  { s with meas := { s.meas with rounds := insertRound r s.meas.rounds } }

/-- A record put into a list in an order. -/
def insertBy (before : Cell → Cell → Bool) (c : Cell) : List Cell → List Cell
  | [] => [c]
  | d :: ds => if before c d then c :: d :: ds else d :: insertBy before c ds

/-- Records sorted in an order. -/
def sortBy (before : Cell → Cell → Bool) (cs : List Cell) : List Cell := cs.foldl (fun acc c => insertBy before c acc) []

/-- The order list: SERVING, then LISTED by key, then FOUND by falling level, up to the capacity (R91). -/
def orderList (cells : List Cell) (capacity : Nat) : List CellKey :=
  let byKey : Cell → Cell → Bool := fun a b => keyBelow a.key b.key
  let byLevel : Cell → Cell → Bool := fun a b => levelBelow b.level a.level || (a.level == b.level && byKey a b)
  ((cells.filter (·.role == .serving) ++ sortBy byKey (cells.filter (·.role == .listed))
    ++ sortBy byLevel (cells.filter (·.role == .found))).map (·.key)).take capacity

/-- A round's window is reported standing: the order list is built and a MEASURE-ORDER offered (R91). -/
def State.buildOrder (s : State) (r : Round) : State :=
  let order := orderList s.meas.cells r.capacity
  (s.modRound r.id fun q => { q with order := some order, req := .offered s.line.nextSerial }).offerRadio .measurement 3 66
    ([byte r.id, byte order.length] ++ order.flatMap keyBytes)

/-- The measurement unit takes a report on a round's window (R91, R93). -/
def State.roundReport (s : State) (id : Nat) (rep : Report) : State :=
  match s.round? id with
  | none => s
  | some r =>
    match rep with
    | .standing => s.buildOrder r
    | .active => s
    | .shortened _ => s
    | .outcome .fullTime =>
      if r.lastTaken then s.endRound r none
      else
        (s.removeReq r.req).modRound id fun q =>
          { q with outcome := some .fullTime, silence := some (after (after r.start r.len) 3277) }
    | .outcome .released => s.endRound r (some .released)
    | .outcome (.yielded _) => s.endRound r (some .yielded)
    | .outcome (.cut _) => s.endRound r (some .cut)
    | .outcome (.lapsed _) => s.endRound r (some .lapsed)

/-- A unit releases one of its windows: it leaves the plan at once, and the line is told as its state asks (R67). The
releasing unit goes on by its own rule; a MEASURE window's round is skipped RELEASED (R93). -/
def State.release (s : State) (owner : UnitId) (id : Nat) : State :=
  match s.window? id with
  | none => s
  | some w =>
    if w.owner != owner then s
    else
      let s := (s.leavePlan id).retract w
      if w.kind == .measure then s.roundReport id (.outcome .released) else s

/-- A unit releases a window it may hold. -/
def State.releaseOpt (s : State) (owner : UnitId) : Option Nat → State
  | none => s
  | some id => s.release owner id

/-- A unit releases every window of the plan that is its own and of a kind (R117, R118, R142). -/
def State.releaseAll (s : State) (owner : UnitId) (p : Window → Bool) : State :=
  (s.air.plan.filter fun w => w.owner == owner && p w).foldl (fun s w => s.release owner w.id) s

/-! ### Tests and ranks on records -/

/-- A neighbour's rank R_n = F_n − 16·offset − 16·penalty (R101). -/
def Cell.rankOf (c : Cell) (f : Int) : Int := f - 16 * c.offset - 16 * (c.penalty : Int)

/-- A LISTED or FOUND record. -/
def Cell.neighbour (c : Cell) : Bool := c.role == .listed || c.role == .found

/-- The thresholds on level and quality (R101). -/
def Cell.strong (c : Cell) (p : Params) : Bool :=
  match c.level, c.quality with
  | some f, some q => 16 * p.lmin ≤ f && 16 * p.qmin ≤ q
  | _, _ => false

/-- The neighbour test (R101). -/
def Cell.neighbourTest (c : Cell) (p : Params) : Bool := c.neighbour && c.strong p && 2 ≤ c.samples

/-- The serving test (R101). -/
def State.servingTest (s : State) : Bool :=
  match s.serving? with
  | some c => c.strong s.meas.params && !s.meas.params.barred
  | none => false

/-- The delay factor of a mobility state (R101). -/
def delayFactor : Mobility → Nat × Nat
  | .normal => (1, 1)
  | .medium => (3, 4)
  | .high => (1, 2)

/-- A delay scaled by the mobility state: floor(T·num/den) (R101). -/
def scaledDelay (t : Nat) (m : Mobility) : Nat := t * (delayFactor m).1 / (delayFactor m).2

/-- The idle hysteresis in force (R101). -/
def Params.hystEff (p : Params) : Mobility → Nat
  | .normal => p.hyst
  | .medium => p.hyst - p.hMed
  | .high => p.hyst - p.hHigh

end Sys2Proof.Machine
end

