-- ==== Sys2Proof/Machine/Mobility.lean ====
section
/-! DEFINITION. The mobility ring, its count and the mobility state (R112 to R114). -/

namespace Sys2Proof.Machine

/-- The tick at which a ring entry leaves the count: its tick + W·32768 (R113). -/
def RingEntry.leaves (e : RingEntry) (span : Nat) : Tick := after e.tick (span * 32768)

/-- The count c: the counted entries whose tick + W·32768 is later than now (R113), by the comparison of R47 (assumption log,
entry 35). -/
def State.mobCount (s : State) : Nat :=
  (s.svc.ring.filter fun e => e.counted && later (e.leaves s.meas.params.span) s.now).length

/-- The threshold of the mobility state, which NORMAL has not (R114). -/
def State.threshold (s : State) : Option Nat :=
  match s.svc.mobility with
  | .normal => none
  | .medium => some s.meas.params.nMed
  | .high => some s.meas.params.nHigh

/-- The count is below the threshold of the mobility state (R114). -/
def State.belowThreshold (s : State) : Bool := s.threshold.any fun t => s.mobCount < t

/-- With c below the threshold, an absent calm-since becomes now (R114). -/
def State.calmBegin (s : State) : State :=
  if s.belowThreshold && s.svc.calmSince.isNone then { s with svc := { s.svc with calmSince := some s.now } } else s

/-- Calm-since is set when c is below the threshold and it is absent, and cleared when c is at least the threshold (R114). -/
def State.calmCheck (s : State) : State :=
  if s.belowThreshold then s.calmBegin else { s with svc := { s.svc with calmSince := none } }

/-- The mobility state changes, and MOBILITY-CHANGED is raised (R113, R114). -/
def State.setMobility (s : State) (m : Mobility) : State :=
  if m == s.svc.mobility then s
  else
    State.raise { s with svc := { s.svc with mobility := m } } .mobilityChanged
      [byte s.svc.mobility.code, byte m.code, byte s.mobCount]

/-- The latest counted entry of the ring. -/
def latestCounted (ring : List RingEntry) : Option RingEntry := (ring.filter (·.counted)).getLast?

/-- A new change is not counted when it goes straight back to the cell that the latest counted change left, less than W
after it (R112). -/
def isCounted (ring : List RingEntry) (target : CellKey) (tick : Tick) (span : Nat) : Bool :=
  match latestCounted ring with
  | none => true
  | some e => !(e.source == some target && elapsed tick e.tick < span * 32768)

/-- A change of serving cell enters the ring, and the state may rise (R112, R113). R112 gives the drop of the oldest of 16 entries and
the test of the new one in no order: the oldest is dropped first, so that the test is made against the latest counted of the 15 that
stay (DESIGN CHOICE; assumption log, entry 41). -/
def State.enterRing (s : State) (source : Option CellKey) (target : CellKey) (tick : Tick) : State :=
  let ring := if 16 ≤ s.svc.ring.length then s.svc.ring.tail else s.svc.ring
  let e : RingEntry :=
    { tick := tick, source := source, target := target, counted := isCounted ring target tick s.meas.params.span }
  let s : State := { s with svc := { s.svc with ring := ring ++ [e] } }
  let c := s.mobCount
  let s :=
    if s.meas.params.nHigh ≤ c then s.setMobility .high
    else if s.meas.params.nMed ≤ c && s.svc.mobility == .normal then s.setMobility .medium
    else s
  s.calmCheck

/-- The state that c indicates (R114). -/
def State.indicated (s : State) : Mobility :=
  if s.meas.params.nHigh ≤ s.mobCount then .high
  else if s.meas.params.nMed ≤ s.mobCount then .medium
  else .normal

end Sys2Proof.Machine
end

