-- ==== Sys2Proof/Machine/PagingPlan.lean ====
section
/-! DEFINITION. The paging schedule (R141 to R145, R150), the frame anchor set (R48), the parameters in force (R77 to R79)
and the change of the SERVING record (R83). -/

namespace Sys2Proof.Machine

/-- The paging frame pf = (I mod G)·(C/G) + s (R141). -/
def State.pagingFrame (s : State) : Nat :=
  let p := s.meas.params
  let i := match s.cmd.setup with
    | some c => c.index
    | none => 0
  (i % p.groups) * (p.cycle / p.groups) + p.shift

/-- A watch is missed: the count rises, and PAGES-MISSED is raised at every fourth (R150). -/
def State.missWatch (s : State) (r : MissReason) : State :=
  let n := bump255 s.pag.missed
  let s' : State := { s with pag := { s.pag with missed := n, missReason := some r } }
  if n != s.pag.missed && n % 4 == 0 then s'.raise .pagesMissed [byte n, byte r.code] else s'

/-- The neighbour interval of a mobility state (R144). -/
def neighbourInterval : Mobility → Nat
  | .normal => 4
  | .medium => 2
  | .high => 1

/-- A cycle's round is FULL (R144), rounds since full having risen. -/
def State.roundIsFull (s : State) : Bool :=
  match s.serving?.bind (·.level) with
  | none => true
  | some f => f < 16 * s.meas.params.search || neighbourInterval s.svc.mobility ≤ s.pag.roundsSinceFull

/-- A cycle record is added. -/
def State.addCycle (s : State) (c : Cycle) : State := { s with pag := { s.pag with cycles := s.pag.cycles ++ [c] } }

/-- Rounds since full takes a value. -/
def State.setRounds (s : State) (n : Nat) : State := { s with pag := { s.pag with roundsSinceFull := n } }

/-- A FULL round's MEASURE window was placed: the rounds since full begin again (R144). -/
def State.fullPlaced (s : State) (id : Nat) : State :=
  { s with pag := { s.pag with roundsSinceFull := 0, fullMeasures := s.pag.fullMeasures ++ [id] } }

/-- A cycle's MEASURE window was placed: the cycle is added with it, and the measurement unit makes its round (R52, R90,
R144). -/
def State.cycleRoundPlaced (s : State) (c : Cycle) (full : Bool) (id : Nat) (start stop : Tick) : State :=
  ((if full then s.fullPlaced id else s).addCycle { c with measure := some id, full := full }).addRound id start stop

/-- A cycle with its WATCH window placed is added with its round: the scope decided, and its MEASURE window requested directly
after the frame (R143, R144). -/
def State.planRound (s : State) (c : Cycle) : State :=
  let s := s.setRounds (bump255 s.pag.roundsSinceFull)
  let full := s.roundIsFull
  s.ask (.fixed .measure .paging c.stop (after c.stop (33 + 16 * s.roundSize full))) (.round c full)
    (fun s id start stop => s.cycleRoundPlaced c full id start stop)
    fun s _ => s.addCycle { c with full := full }

/-- A cycle's WATCH window was placed (R143). -/
def State.watchPlaced (s : State) (c : Cycle) (id : Nat) : State :=
  s.planRound { c with watch := some id, status := .waiting }

/-- The cycle of the next paging frame not earlier than t, before its windows are placed (R143). -/
def State.nextCycle (s : State) (a : Anchor) (t : Tick) : Cycle where
  frame := (a.nextFrame s.meas.params.cycle s.pagingFrame t).1
  start := (a.nextFrame s.meas.params.cycle s.pagingFrame t).2.1
  stop := (a.nextFrame s.meas.params.cycle s.pagingFrame t).2.2
  watch := none
  status := .missed
  deadline := none
  measure := none
  full := false
  ended := false

/-- A cycle is planned over the next paging frame not earlier than t; without an anchor it is owed (R143). -/
def State.planCycle (s : State) (t : Tick) : State :=
  match s.air.anchor with
  | none => { s with pag := { s.pag with planOwed := true } }
  | some a =>
    let s : State := { s with pag := { s.pag with planOwed := false } }
    let c := s.nextCycle a t
    s.ask (.fixed .watch .paging c.start c.stop) (.watch c) (fun s id _ _ => s.watchPlaced c id)
      fun s _ => (s.addCycle c).missWatch .peer

/-- The tick t of a plan that follows a cycle, if one is held: the later of now + 99 and its frame end (R143, R145). Of several
cycles kept, the newest gives the frame end, and all are kept (assumption log, entry 36). -/
def State.planFrom (s : State) : Tick :=
  match s.pag.cycles.getLast? with
  | some c => laterOf (after s.now 99) c.stop
  | none => after s.now 99

/-- C, G or s has changed: WAITING cycles are dropped and their windows released, and a cycle is planned afresh (R145). -/
def State.replan (s : State) : State :=
  if s.pag.running then
    let drop := s.pag.cycles.filter (·.status == .waiting)
    let s := drop.foldl (fun s c => (s.releaseOpt .paging c.watch).releaseOpt .paging c.measure) s
    let s : State :=
      { s with pag :=
        { s.pag with
          cycles := s.pag.cycles.filter (·.status != .waiting)
          fullMeasures := s.pag.fullMeasures.filter fun id => !drop.any (·.measure == some id) } }
    s.planCycle s.planFrom
  else s

/-- The schedule starts, and the first cycle is planned (R142). -/
def State.startSchedule (s : State) (fromCamping : Bool) : State :=
  let s : State :=
    { s with pag :=
      { s.pag with
        running := true
        roundsSinceFull := 255
        missed := if fromCamping then 0 else s.pag.missed
        missReason := if fromCamping then none else s.pag.missReason } }
  s.planCycle (after s.now 99)

/-- The schedule stops; its windows are released once the handling that stopped it is complete (R142). -/
def State.stopSchedule (s : State) : State :=
  State.push { s with pag := { s.pag with running := false, planOwed := false } } .pagingRelease

/-- The paging unit releases its windows and drops its cycle and INFO records (R142). -/
def State.pagingRelease (s : State) : State :=
  let s := s.releaseAll .paging fun _ => true
  let s := match s.pag.info with
    | some i => s.removeReq i.req
    | none => s
  { s with pag := { s.pag with cycles := [], fullMeasures := [], info := none } }

/-- The paging unit learns of a change of service state (R142). -/
def State.pagingOnService (s : State) (old new : ServiceState) : State :=
  if new == .camped then s.startSchedule (old == .camping)
  else if old == .camped then s.stopSchedule
  else s

/-- The anchor is set from a parcel's anchor field at byte `i` (R48); a plan owed for want of it is made (R143). -/
def State.setAnchor (s : State) (p : List Byte) (i : Nat) (arrival : Tick) : State :=
  let a : Anchor :=
    { frame := u16 p i, tick := arrival + BitVec.ofInt 32 (i16 p (i + 2)), phase := min 24 (u8 p (i + 4)) }
  let s : State := { s with air := { s.air with anchor := some a } }
  if s.pag.running && s.pag.planOwed then s.planCycle s.planFrom else s

/-- Parameters come into force: a running schedule re-plans if C, G or s changed (R77, R79). -/
def State.setParams (s : State) (p : Params) : State :=
  let old := s.meas.params
  let s : State := { s with meas := { s.meas with params := p } }
  if p.cycle != old.cycle || p.groups != old.groups || p.shift != old.shift then s.replan else s

/-- The nearest of a list of values, the smaller of two equally near, the list rising (R78). -/
def nearest (v first : Nat) (rest : List Nat) : Nat :=
  rest.foldl (fun b w => if (max v w - min v w) < (max v b - min v b) then w else b) first

/-- A value brought into a range. -/
def clampNat (lo hi v : Nat) : Nat := max lo (min hi v)

/-- The parameters of a CELL-PARAMS, clamped (R78). C is clamped before G, both before s, and N_med before N_high. -/
def paramsOf (p : List Byte) : Params :=
  let c := nearest (u8 p 4) 32 [64, 128, 256]
  let g := nearest (u8 p 5) 1 [2, 4, 8, 16, 32]
  let nMed := clampNat 2 15 (u8 p 19)
  { cycle := c
    groups := g
    shift := min (c / g - 1) (u8 p 6)
    lmin := clampInt (-140) (-44) (levelAt p 7)
    qmin := clampInt (-24) 0 (i8 p 8)
    hyst := clampNat 0 24 (u8 p 9)
    search := clampInt (-140) (-44) (levelAt p 10)
    kIdle := min 7 (u8 p 11)
    kConn := min 7 (u8 p 12)
    tr := min 7 (u8 p 13)
    margin := min 15 (u8 p 14)
    nRep := u8 p 15
    interval := clampNat 1 60 (u8 p 16)
    repCount := min 8 (u8 p 17)
    span := clampNat 30 240 (u8 p 18)
    nMed := nMed
    nHigh := clampNat (nMed + 1) 16 (u8 p 20)
    hMed := min 6 (u8 p 21)
    hHigh := min 6 (u8 p 22)
    barred := u8 p 23 != 0 }

/-- The first record goes before the second when room is made among BARRED records: the earlier barred-until tick, then the
higher key (R83). -/
def Cell.barredFirst (a b : Cell) : Bool :=
  tickBelow a.barredUntil b.barredUntil || (a.barredUntil == b.barredUntil && keyBelow b.key a.key)

/-- The BARRED record that makes room for a new serving cell (R83). -/
def firstBarred : List Cell → Option Cell
  | [] => none
  | c :: cs =>
    match firstBarred cs with
    | none => some c
    | some d => if d.barredFirst c then some d else some c

/-- The record evicted to make room for a new serving cell: FOUND, else LISTED, else BARRED (R83). The old SERVING record has
not become LISTED for this choice. -/
def State.roomForServing (s : State) : Option Cell :=
  match s.weakestFound with
  | some c => some c
  | none =>
    match weakest (s.meas.cells.filter (·.role == .listed)) with
    | some c => some c
    | none => firstBarred (s.meas.cells.filter (·.role == .barred))

/-- The SERVING record becomes LISTED with its offset, and its better-since is cleared (R83). -/
def Cell.demoted (c : Cell) : Cell :=
  if c.role == .serving then { c with role := .listed, betterSince := none } else c

/-- The named record becomes SERVING: no penalty, no barring, no better-since, no misses (R83). -/
def Cell.promoted (c : Cell) : Cell :=
  { c with
    role := .serving, before := none, barredUntil := none, penalty := 0, penaltyUntil := none, betterSince := none,
    misses := 0 }

/-- "Demote serving" (R83). -/
def State.demoteServing (s : State) : State :=
  { s with meas := { s.meas with cells := s.meas.cells.map Cell.demoted } }

/-- "Make serving" a key; the parameters in force return to their defaults (R79, R83). -/
def State.makeServing (s : State) (k : CellKey) : State :=
  let s :=
    if (s.cell? k).isSome then s
    else if s.meas.cells.length < 16 then s.addCell (Cell.fresh k .listed 0)
    else
      match s.roomForServing with
      | some c => (s.dropCell c.key .evicted).addCell (Cell.fresh k .listed 0)
      | none => s.addCell (Cell.fresh k .listed 0)
  let s : State :=
    { s with meas := { s.meas with
      cells := s.meas.cells.map fun c => if c.key == k then c.promoted else c.demoted } }
  s.setParams Params.default

end Sys2Proof.Machine
end

