-- ==== Sys2Proof/Machine/Service.lean ====
section
/-! DEFINITION. The service controller's operations: the service state (R100), scanning (R102 to R105), camping (R106 to
R108), idle evaluation (R109 to R111), the needs and the opening of the connection (R115), and the traffic chain (R117,
R118). -/

namespace Sys2Proof.Machine

/-! ### The service state -/

/-- The handover unit learns of a change of service state and may reset the connected ranking (R124). -/
def State.handoverOnService (s : State) (old new : ServiceState) : State :=
  let wasLinked := old == .linked || old == .switching || old == .returning
  let nowIdle := new == .camped || new == .scanning || new == .shelved
  if (new == .linked && old == .connecting) || (wasLinked && nowIdle) then s.rankingReset else s

/-- The service state changes: the paging unit and then the handover unit are told, and the anchor is cleared for SCANNING
and SHELVED (R48, R100). On entering CAMPED the connection is opened in the same handling if a need is raised (R115). -/
def State.moveService (s : State) (new : ServiceState) : State :=
  let old := s.svc.state
  if new == old then s
  else
    let s : State := { s with svc := { s.svc with state := new } }
    let s := (s.pagingOnService old new).handoverOnService old new
    let s : State :=
      if new == .scanning || new == .shelved then { s with air := { s.air with anchor := none } } else s
    if new == .camped then s.push .openCheck else s

/-- A state that the host is told of (R100). -/
def ServiceState.isReported (st : ServiceState) : Bool :=
  st == .scanning || st == .camped || st == .linked || st == .shelved

/-- SERVICE-CHANGED is raised when the state is one the host is told of and differs from the reported service (R100). -/
def State.reportService (s : State) : State :=
  let new := s.svc.state
  if new.isReported && s.svc.reported != some new then
    let s' : State := { s with svc := { s.svc with reported := some new } }
    match s.svc.reported with
    | some old => s'.raise .serviceChanged [byte old.code, byte new.code]
    | none => s'
  else s

/-- A change of the service state (R100). -/
def State.setService (s : State) (new : ServiceState) : State := (s.moveService new).reportService

/-! ### Scanning -/

/-- The scan record changes. -/
def State.modScan (s : State) (f : Scan → Scan) : State := { s with svc := { s.svc with scan := s.svc.scan.map f } }

/-- A scan record with an empty candidate list (R102). -/
def Scan.fresh : Scan where
  window := none
  order := .unbuilt
  candidates := []
  confirm := none
  reUsed := false
  deadline := none
  retry := none

/-- A SCAN window was placed (R102). -/
def State.scanPlaced (s : State) (id : Nat) : State :=
  s.modScan fun c => { c with window := some id, order := .unbuilt, deadline := none, retry := none }

/-- A SCAN window is requested; refused, the scan retry tick is set (R102). -/
def State.requestScan (s : State) (earliest : Tick) : State :=
  s.ask (.floating .scan .service 16384 earliest none) .scan (fun s id _ _ => s.scanPlaced id)
    fun s _ =>
    s.modScan fun c =>
      { c with window := none, order := .unbuilt, deadline := none, retry := some (after s.now 32768) }

/-- SCANNING is entered: no record SERVING, the camp tick and the serving-unsuitable run cleared, the camp and connection
records dropped, and a SCAN window requested from now for a loss of service, else from now + backoff (R102). -/
def State.enterScanning (s : State) (loss : Bool) : State :=
  let s := (s.setService .scanning).demoteServing
  let s : State :=
    { s with svc :=
      { s.svc with
        campTick := none, unsuitable := 0, camp := none, conn := Conn.idle, scan := some Scan.fresh } }
  s.requestScan (if loss then s.now else after s.now s.svc.backoff)

/-- The scan backoff doubles, to 1048576 at most (R104). -/
def State.doubleBackoff (s : State) : State :=
  { s with svc := { s.svc with backoff := min 1048576 (2 * s.svc.backoff) } }

/-- A fruitless scan: the backoff doubles and a new SCAN window is requested from now + backoff (R104). -/
def State.fruitless (s : State) : State :=
  let s := s.doubleBackoff
  let s : State := { s with svc := { s.svc with scan := some Scan.fresh } }
  s.requestScan (after s.now s.svc.backoff)

/-- The record with the highest value, ties going to the lower channel, then the lower beacon code. -/
def bestBy (value : Cell → Int) : List Cell → Option Cell
  | [] => none
  | c :: cs =>
    match bestBy value cs with
    | none => some c
    | some d => if value d < value c || (value d == value c && keyBelow c.key d.key) then some c else some d

/-- The level of a record, of those that have one. -/
def Cell.levelOr (c : Cell) : Int := c.level.getD 0

/-! ### Camping -/

/-- The camp record changes. -/
def State.modCamp (s : State) (f : Camp → Camp) : State := { s with svc := { s.svc with camp := s.svc.camp.map f } }

/-- The ACCESS window of a camp attempt was placed (R106). -/
def State.campPlaced (s : State) (id : Nat) : State :=
  s.modCamp fun c => { c with window := some id, req := .unbuilt, deadline := none }

/-- The ACCESS window of a camp attempt is requested; refused, it counts as not run (R106). -/
def State.requestCamp (s : State) : State :=
  s.ask (.floating .access .service 3277 s.now (some (after s.now 32768))) .camp (fun s id _ _ => s.campPlaced id)
    fun s blocked =>
    (s.modCamp fun c => { c with window := none, req := .unbuilt }).push (.campNotRun (if blocked then some none else none))

/-- A camp attempt begins on a target (R106). -/
def State.beginCamp (s : State) (target : CellKey) (purpose : CampPurpose) : State :=
  let c : Camp :=
    { target := target, purpose := purpose, barredOrigin := purpose != .scan && s.meas.params.barred, notRun := 0,
      peerBlocked := false, peerStation := none, window := none, req := .unbuilt, deadline := none }
  let s : State := { s with svc := { s.svc with camp := some c } }
  (s.setService .camping).requestCamp

/-- A confirming round's window was placed: the controller records it, and the measurement unit makes its round (R52, R90,
R105). -/
def State.confirmPlaced (s : State) (id : Nat) (start stop : Tick) : State :=
  (s.modScan fun c => { c with confirm := some id }).addRound id start stop

/-- A confirming round is requested for candidates that lack a second sample; refused, the scan is fruitless (R105). -/
def State.confirmRound (s : State) : State :=
  s.ask (.floating .measure .service (33 + 16 * s.roundSize true) s.now (some (after s.now 65536))) .confirm
    (fun s id start stop => s.confirmPlaced id start stop)
    fun s _ => s.fruitless

/-- The candidates of the scan record that are in the table. -/
def State.candidateCells (s : State) : List Cell :=
  match s.svc.scan with
  | some c => c.candidates.filterMap s.cell?
  | none => []

/-- The scan candidates are judged (R104): the best passing one, those without a penalty first; else a confirming round, if
one may still be asked for and a candidate fails on its sample count alone; else the scan is fruitless. -/
def State.judgeScan (s : State) (mayConfirm : Bool) : State :=
  let p := s.meas.params
  let cs := s.candidateCells
  let pass := cs.filter (·.neighbourTest p)
  let best :=
    match bestBy Cell.levelOr (pass.filter (·.penalty == 0)) with
    | some c => some c
    | none => bestBy Cell.levelOr pass
  match best with
  | some c => State.beginCamp { s with svc := { s.svc with scan := none } } c.key .scan
  | none =>
    if mayConfirm && cs.any (fun c => c.neighbour && c.strong p && c.samples < 2) then s.confirmRound else s.fruitless

/-- A camp attempt ends without success: a failure penalises the target, ACCESS-BLOCKED tells of a peer's blocking, and the
controller falls back to CAMPED or SCANNING (R108). -/
def State.campFailed (s : State) (c : Camp) (penal : Bool) : State :=
  let s := if penal then s.penalise c.target else s
  let s := if c.peerBlocked then s.raise .accessBlocked [0, byteOr c.peerStation, byte c.notRun] else s
  let s := (s.releaseOpt .service c.window).removeReq c.req
  let s : State := { s with svc := { s.svc with camp := none } }
  if c.purpose != .scan && s.servingTest then
    State.setService { s with svc := { s.svc with unsuitable := 0 } } .camped
  else if c.purpose == .scan then s.doubleBackoff.enterScanning false
  else s.enterScanning true

/-- A camp attempt's window did not run (R106): requested again up to three times, then the attempt is abandoned. The manual
does not say whether a CAMP-REQ that is being sent at the outcome, and then completes, counts for the new window: the model
disregards that "sent" (assumption log, entry 17). -/
def State.campNotRun (s : State) (blocked : Option (Option Nat)) : State :=
  match s.svc.camp with
  | none => s
  | some c =>
    let c : Camp :=
      { c with
        notRun := c.notRun + 1
        peerBlocked := c.peerBlocked || blocked.isSome
        peerStation := match blocked with
          | some (some st) => some st
          | _ => c.peerStation
        window := none
        req := .unbuilt }
    let s : State := { s with svc := { s.svc with camp := some c } }
    if c.notRun < 3 then s.requestCamp else s.campFailed c false

/-! ### Idle evaluation -/

/-- The idle serving rank R_s = F_s + 16·H_eff (R101). -/
def State.servingRank (s : State) (f : Int) : Int := f + 16 * (s.meas.params.hystEff s.svc.mobility : Int)

/-- A neighbour is better: it passes the neighbour test and R_n > R_s; none is when F_s is absent (R109). -/
def Cell.better (c : Cell) (p : Params) (servingRank : Option Int) : Bool :=
  match servingRank, c.level with
  | some r, some f => c.neighbourTest p && r < c.rankOf f
  | _, _ => false

/-- Better-since is set for a better record that has none, and cleared for one that is not better (R109, R122). -/
def Cell.clock (c : Cell) (better : Bool) (now : Tick) : Cell :=
  if better then (if c.betterSince.isNone then { c with betterSince := some now } else c) else { c with betterSince := none }

/-- A neighbour's rank, of those that have a level. -/
def Cell.rankOr (c : Cell) : Int := c.rankOf c.levelOr

/-- A better record whose clock has run for a delay (R111, R123). -/
def Cell.dueSince (c : Cell) (now : Tick) (delay : Nat) : Bool :=
  match c.betterSince with
  | some t => delay ≤ elapsed now t
  | none => false

/-- The serving cell is lost: a LOSS camp attempt on the best passing neighbour, or SCANNING (R110). -/
def State.servingLost (s : State) : State :=
  let s : State := { s with svc := { s.svc with unsuitable := 0 } }
  match bestBy Cell.rankOr (s.meas.cells.filter (·.neighbourTest s.meas.params)) with
  | some c => s.beginCamp c.key .loss
  | none => s.enterScanning true

/-- The camp age is at least 32768 ticks (R111). -/
def State.campAgeReached (s : State) : Bool :=
  match s.svc.campTick with
  | some t => 32768 ≤ elapsed s.now t
  | none => false

/-- Ordinary reselection (R111). -/
def State.reselect (s : State) (rank : Option Int) : State :=
  let delay := scaledDelay (s.meas.params.tr * 32768) s.svc.mobility
  let cands := s.meas.cells.filter fun c => c.better s.meas.params rank && c.dueSince s.now delay
  match bestBy Cell.rankOr cands with
  | some c => if s.campAgeReached then s.beginCamp c.key .reselect else s
  | none => s

/-- The idle evaluation that follows a completed round in CAMPED (R109). -/
def State.evaluate (s : State) : State :=
  let run := if s.servingTest then 0 else min 2 (s.svc.unsuitable + 1)
  let rank := (s.serving?.bind (·.level)).map s.servingRank
  let s : State :=
    { s with
      svc := { s.svc with unsuitable := run }
      meas := { s.meas with
        cells := s.meas.cells.map fun c =>
          if c.neighbour then c.clock (c.better s.meas.params rank) s.now else c } }
  if run == 2 then s.servingLost else s.reselect rank

/-- The controller is told that a round ended (R105, R109). -/
def State.roundDone (s : State) (id : Nat) (skip : Option SkipReason) : State :=
  match s.svc.state with
  | .camped => if skip.isNone then s.evaluate else s
  | .scanning =>
    match s.svc.scan with
    | none => s
    | some c =>
      if c.confirm != some id then s
      else
        let s := s.modScan fun c => { c with confirm := none }
        match skip with
        | none => s.judgeScan false
        | some r =>
          if (r == .yielded || r == .lapsed) && !c.reUsed then
            (s.modScan fun c => { c with reUsed := true }).confirmRound
          else s.fruitless
  | _ => s

/-! ### Needs and the opening of the connection -/

/-- The four needs (R115). -/
inductive Need where
  | call | text | store
  | page (r : PageReason)
  deriving DecidableEq, Repr

/-- At least one need is raised (R115). -/
def Service.anyNeed (v : Service) : Bool := v.needCall || v.needText || v.needStore || v.needPage.isSome

/-- A need's flag is set; a PAGE need keeps its reason unless CALL replaces TEXT (R148). -/
def Service.withNeed (v : Service) : Need → Service
  | .call => { v with needCall := true }
  | .text => { v with needText := true }
  | .store => { v with needStore := true }
  | .page r => { v with needPage := if v.needPage == some .call then some .call else some r }

/-- A need's flag is cleared. -/
def Service.withoutNeed (v : Service) : Need → Service
  | .call => { v with needCall := false }
  | .text => { v with needText := false }
  | .store => { v with needStore := false }
  | .page _ => { v with needPage := none }

/-- The connection record changes. -/
def State.modConn (s : State) (f : Conn → Conn) : State := { s with svc := { s.svc with conn := f s.svc.conn } }

/-- The traffic record changes. -/
def State.modTraffic (s : State) (f : Traffic → Traffic) : State :=
  { s with svc := { s.svc with traffic := f s.svc.traffic } }

/-- The ACCESS window of an access attempt was placed (R115). -/
def State.linkPlaced (s : State) (id : Nat) : State := s.modConn fun c => { c with window := some id }

/-- The ACCESS window of an access attempt is requested; a refusal fails the attempt (R115, R116). -/
def State.requestLink (s : State) : State :=
  let s := s.modConn fun c => { c with window := none, req := .unbuilt, deadline := none }
  s.ask (.floating .access .service 1311 s.now (some (after s.now 32768))) .link (fun s id _ _ => s.linkPlaced id)
    fun s blocked => s.push (.linkFailed (if blocked then some none else none))

/-- The connection is opened from CAMPED while a need is raised (R115). -/
def State.openConnection (s : State) : State :=
  if s.svc.state == .camped && s.svc.anyNeed then
    ((s.modConn fun _ => Conn.idle).setService .connecting).requestLink
  else s

/-- A need is raised: the close tick is cleared, and in CAMPED the connection is opened (R115, R119). -/
def State.raiseNeed (s : State) (n : Need) : State :=
  let s : State := { s with svc := s.svc.withNeed n }
  (s.modTraffic fun t => { t with close := none }).openConnection

/-- A need is lowered; the last one lowered in LINKED sets the close tick (R119). -/
def State.lowerNeed (s : State) (n : Need) : State :=
  let was := s.svc.anyNeed
  let s : State := { s with svc := s.svc.withoutNeed n }
  if was && !s.svc.anyNeed && s.svc.state == .linked then
    s.modTraffic fun t => { t with close := some (after s.now 65536) }
  else s

/-- The PAGE need is lowered. -/
def State.lowerPage (s : State) : State := s.lowerNeed (.page .call)

/-- The reason of a LINK-REQ: the first raised of CALL, PAGE, TEXT and STORE (R115); with none raised, a free value
(assumption log, entry 7). -/
def State.linkReason (s : State) : Nat :=
  if s.svc.needCall then 0
  else match s.svc.needPage with
    | some .call => 1
    | some .text => 2
    | none => if s.svc.needText then 3 else if s.svc.needStore then 4 else (Config.linkReason s.freeCount).val

/-- LINK-REQ is offered when the attempt's window is reported active (R115). -/
def State.offerLinkReq (s : State) : State :=
  let reason := s.linkReason
  let s : State := if s.svc.anyNeed then s else { s with freeCount := s.freeCount + 1 }
  (s.modConn fun c => { c with req := .offered s.line.nextSerial }).offerRadio .service 2 57 [byte reason]

/-! ### Traffic -/

/-- A TRAFFIC window of the plan. -/
def Window.isTraffic (w : Window) : Bool := w.kind == .traffic

/-- A TRAFFIC window is ACTIVE. -/
def State.trafficActive (s : State) : Bool := s.air.plan.any fun w => w.isTraffic && w.state == .active

/-- The latest TRAFFIC window in the plan (R117). -/
def State.latestChunk (s : State) : Option Window := (s.air.plan.filter (·.isTraffic)).getLast?

/-- A TRAFFIC window is requested; refused, the chunk retry tick is set (R117). -/
def State.requestChunk (s : State) (earliest : Tick) : State :=
  s.ask (.floating .traffic .service 16384 earliest none) .chunk (fun s _ _ _ => s)
    fun s _ => s.modTraffic fun t => { t with retry := some (after s.now 3277) }

/-- The chunk conditions are tested (R117). -/
def State.tryChunk (s : State) : State :=
  if s.svc.state != .linked then s
  else
    match s.latestChunk with
    | none => s.requestChunk s.now
    | some w => if w.state == .active && notLater w.stop (after s.now 8192) then s.requestChunk w.stop else s

/-- The traffic-absence measure (R118). -/
def State.absence (s : State) : Nat :=
  s.svc.traffic.accrued + match s.svc.traffic.since with
    | some t => elapsed s.now t
    | none => 0

/-- A TRAFFIC window becomes ACTIVE (R118). -/
def State.chunkActive (s : State) : State :=
  s.modTraffic fun t => { t with accrued := 0, since := none, gapFlag := false }

/-- Absence begins to run, unless a TRAFFIC window is ACTIVE or it runs already (R118; assumption log, entry 16). -/
def State.absenceRuns (s : State) : State :=
  if s.trafficActive || s.svc.traffic.since.isSome then s
  else s.modTraffic fun t => { t with since := some s.now }

/-- LINKED is entered from CONNECTING (R117, R119). -/
def State.linkUp (s : State) : State :=
  let s := s.setService .linked
  let s := s.modTraffic fun t =>
    { t with
      accrued := 0, since := some s.now, gapFlag := false
      close := if s.svc.anyNeed then none else some (after s.now 65536) }
  s.tryChunk

/-- SWITCHING is entered from LINKED: absence stops accruing (R118, R127). -/
def State.enterSwitching (s : State) : State :=
  let a := s.absence
  (s.modTraffic fun t => { t with accrued := a, since := none }).setService .switching

/-- LINKED is entered again after a switch or a return: the chunk chain is placed afresh and absence runs again
(R117 to R119). -/
def State.resumeLinked (s : State) : State :=
  let s := s.setService .linked
  let s := s.releaseAll .service fun w => w.isTraffic && w.state != .active
  (s.absenceRuns.tryChunk).push .closeCheck

/-- Every TRAFFIC window is released (R118, R119); in LINKED, with one released, absence begins to run (R118). -/
def State.releaseTraffic (s : State) : State :=
  let t := s.releaseAll .service (·.isTraffic)
  if s.svc.state == .linked && s.air.plan.any (·.isTraffic) then t.absenceRuns else t

/-- The connection is closed for idleness: TRAFFIC released, LINK-CLOSE offered, CAMPED (R119). -/
def State.idleClose (s : State) : State :=
  let s := s.releaseTraffic.modTraffic fun t => { t with close := none }
  (s.offerRadio .service 2 58 []).setService .camped

end Sys2Proof.Machine
end

