-- ==== Sys2Proof/Machine/Calls.lean ====
section
/-! DEFINITION. The call unit's operations: records, timers, signals, and what the unit does when the service controller and
the handover unit call on it (R162 to R183). -/

namespace Sys2Proof.Machine

/-! ### Records -/

/-- The record with this handle. -/
def State.call? (s : State) (h : Nat) : Option Call := s.calls.table.find? (·.handle == h)

/-- The record with this direction and transaction (R162). -/
def State.callOf (s : State) (out : Bool) (tx : Nat) : Option Call :=
  s.calls.table.find? fun c => c.out == out && c.transaction == tx

/-- A record is changed in place. -/
def State.modCall (s : State) (h : Nat) (f : Call → Call) : State :=
  { s with calls := { s.calls with table := s.calls.table.map fun c => if c.handle == h then f c else c } }

/-- The foreground states (R163). -/
def CallState.foreground : CallState → Bool
  | .dialing => true
  | .calling => true
  | .ringback => true
  | .answering => true
  | .connected => true
  | .resuming => true
  | _ => false

/-- The background states (R163). -/
def CallState.background : CallState → Bool
  | .holding => true
  | .held => true
  | _ => false

/-- The record in the foreground (R163). -/
def State.foreground? (s : State) : Option Call := s.calls.table.find? (·.state.foreground)

/-- A step is in flight while a record is HOLDING or RESUMING (R163). -/
def State.stepInFlight (s : State) : Bool := s.calls.table.any fun c => c.state == .holding || c.state == .resuming

/-- A record is HELD. -/
def State.anyHeld (s : State) : Bool := s.calls.table.any (·.state == .held)

/-- The next handle after the counter, 1 to 15 and then 1 again, passing over those held (R162). -/
def State.nextHandle (s : State) : Nat → Nat → Nat
  | 0, h => h
  | n + 1, h => if (s.call? h).isSome then s.nextHandle n (h % 15 + 1) else h

/-- The lowest OUT transaction not held (R162). -/
def State.freeTransaction (s : State) : Nat :=
  ((List.range 8).find? fun t => (s.callOf true t).isNone).getD 0

/-- A record put into the table, in order of handle (R162). -/
def insertCall (c : Call) : List Call → List Call
  | [] => [c]
  | d :: ds => if c.handle < d.handle then c :: d :: ds else d :: insertCall c ds

/-! ### Timers -/

/-- The timer of a state, in ticks (section 8.2). -/
def CallState.ticks : CallState → Option Nat
  | .dialing => some 327680
  | .calling => some 655360
  | .answering => some 262144
  | .holding => some 163840
  | .resuming => some 163840
  | .clearing => some 196608
  | _ => none

/-- A timer started now, held with its full length while the unit's timers are held (R138, R165). -/
def startTimer (now : Tick) (held : Bool) (n : Nat) : Timer := if held then .held n else .running (after now n)

/-- A running timer held with its remaining ticks (R138). -/
def Timer.hold (now : Tick) : Timer → Timer
  | .running d => .held (if later d now then elapsed d now else 0)
  | t => t

/-- A held timer resumed (R138). -/
def Timer.resume (now : Tick) : Timer → Timer
  | .held n => .running (after now n)
  | t => t

/-- The timer of a state just entered (R165). -/
def State.timerFor (s : State) (st : CallState) : Timer :=
  match st.ticks with
  | some n => startTimer s.now s.calls.timersHeld n
  | none => .off

/-- A record enters a state: its timer is started or cleared, and the waiting flag is cleared on leaving OFFERED
(R165, R176). -/
def State.enterCall (s : State) (h : Nat) (st : CallState) : State :=
  s.modCall h fun c => { c with state := st, timer := s.timerFor st, waiting := c.waiting && st == .offered }

/-! ### Notices -/

/-- CALL-STATE (R183). -/
def State.raiseCallState (s : State) (h : Nat) (old new : CallState) : State :=
  s.raise .callState [byte h, byte old.code, byte new.code]

/-- CALL-STATE for every record whose state differs from what it was, in order of handle (R183). -/
def State.announce (s : State) (was : List Call) : State :=
  s.calls.table.foldl
    (fun t c =>
      match was.find? (·.handle == c.handle) with
      | some d => if d.state == c.state then t else t.raiseCallState c.handle d.state c.state
      | none => t)
    s

/-- CALL-CLEARED (R183). -/
def State.raiseCleared (s : State) (c : Call) (cause : CallCause) : State :=
  s.raise .callCleared [byte c.handle, if c.out then 0 else 1, byte cause.code, byte cause.netCode]

/-! ### Making and removing records -/

/-- A record is made; the first in the table raises the CALL need (R164). -/
def State.addCall (s : State) (c : Call) : State :=
  let first := s.calls.table.isEmpty
  let s : State := { s with calls := { s.calls with table := insertCall c s.calls.table, counter := c.handle } }
  if first then s.raiseNeed .call else s

/-- The CALL need is lowered when the table is empty (R164). -/
def State.lowerCallNeed (s : State) : State := if s.calls.table.isEmpty then s.lowerNeed .call else s

/-- A record leaves the table. -/
def State.removeCall (s : State) (c : Call) : State :=
  { s with calls := { s.calls with table := s.calls.table.filter (·.handle != c.handle) } }

/-- A record is removed with a cause, and CALL-CLEARED is raised (R183). -/
def State.clearCall (s : State) (c : Call) (cause : CallCause) : State :=
  ((s.removeCall c).raiseCleared c cause).lowerCallNeed

/-- A record that a handling removed, with its cause. -/
abbrev ClearedCall : Type := Call × CallCause

/-- A cleared record put into a list, in order of handle. -/
def insertCleared (x : ClearedCall) : List ClearedCall → List ClearedCall
  | [] => [x]
  | y :: ys => if x.1.handle < y.1.handle then x :: y :: ys else y :: insertCleared x ys

/-- CALL-CLEARED for the records that a handling removed, in order of handle, and the CALL need with the last of the table
(R164, R183). -/
def State.announceCleared (s : State) (gone : List ClearedCall) : State :=
  if gone.isEmpty then s
  else ((gone.foldl (fun l x => insertCleared x l) []).foldl (fun s x => s.raiseCleared x.1 x.2) s).lowerCallNeed

/-! ### Signals -/

/-- The signal kinds (section 10.5). -/
inductive Signal where
  | setup | connect | release | hold | resume | swap
  deriving DecidableEq, Repr

def Signal.code : Signal → Nat
  | .setup => 0
  | .connect => 1
  | .release => 2
  | .hold => 3
  | .resume => 4
  | .swap => 5

/-- The fields of a CALL-SIGNAL after the destination: the cause for RELEASE alone, and the number for SETUP alone (R166). -/
def signalFields (k : Signal) (out : Bool) (tx : Nat) (cause : Option CallCause) (number : List Nat) : List Byte :=
  [byte k.code, if out then 0 else 1, byte tx, byteOr (cause.map CallCause.code), byte ((cause.map CallCause.netCode).getD 0)]
    ++ fixedDigits number

/-- A CALL-SIGNAL for a record (R166); the second component says that a full held uplink list dropped it. -/
def State.signal (s : State) (k : Signal) (c : Call) (cause : Option CallCause := none) : State × Bool :=
  s.uplink .call 60 (signalFields k c.out c.transaction cause (if k == .setup then c.number.getD [] else []))

/-- A CALL-SIGNAL whose loss to a full held uplink list is not told on. -/
def State.signal' (s : State) (k : Signal) (c : Call) (cause : Option CallCause := none) : State := (s.signal k c cause).1

/-- RELEASE is sent with a cause, and the record enters CLEARING with it (R165, R172). -/
def State.releaseCall (s : State) (c : Call) (cause : CallCause) : State :=
  ((s.signal' .release c (some cause)).modCall c.handle fun d => { d with cause := some cause }).enterCall c.handle .clearing

/-! ### Steps in flight -/

/-- A record leaves the swap pair (R172, R178). -/
def SwapPair.without (p : SwapPair) (h : Nat) : Option SwapPair :=
  let q : SwapPair :=
    { p with
      holding := if p.holding == some h then none else p.holding
      resuming := if p.resuming == some h then none else p.resuming }
  if q.holding.isNone && q.resuming.isNone then none else some q

/-- A record leaves the swap pair, if it is in one (R172, R178). -/
def State.leavePair (s : State) (h : Nat) : State :=
  { s with calls := { s.calls with pair := s.calls.pair.bind (·.without h) } }

/-- The record is a member of the swap pair. -/
def State.inPair (s : State) (h : Nat) : Bool :=
  s.calls.pair.any fun p => p.holding == some h || p.resuming == some h

/-- The deferred answer is cleared. -/
def State.clearDeferred (s : State) : State := { s with calls := { s.calls with deferred := none } }

/-- The deferred answer proceeds: CONNECT is sent for the OFFERED record, which enters ANSWERING; a CONNECT that a full held
uplink list drops removes the record with cause BLOCKED, for CALL-CLEARED to be raised in its turn (R166, R170, R178). -/
def State.proceedDeferred (s : State) : State × List ClearedCall :=
  match s.calls.deferred.bind s.call? with
  | none => (s.clearDeferred, [])
  | some c =>
    let (s, dropped) := s.clearDeferred.signal .connect c
    if dropped then (s.removeCall c, [(c, .blocked)]) else (s.enterCall c.handle .answering, [])

/-- What a record's going means for a step in flight (R172, R178): the HOLDING record of a deferred answer lets the answer
proceed, its OFFERED record clears it, and a member of a swap pair leaves the pair. -/
def State.settleStep (s : State) (c : Call) : State × List ClearedCall :=
  let s := s.leavePair c.handle
  if s.calls.deferred == some c.handle then (s.clearDeferred, [])
  else if c.state == .holding && s.calls.deferred.isSome then s.proceedDeferred
  else (s, [])

/-! ### Told by other units -/

/-- Every DIALING record sends its SETUP and enters CALLING (R168). -/
def State.sendSetups (s : State) : State :=
  (s.calls.table.filter (·.state == .dialing)).foldl
    (fun s c => ((s.signal' .setup c).enterCall c.handle .calling).raiseCallState c.handle .dialing .calling) s

/-- RADIO-LOST: every record is removed, in order of handle (R180). -/
def State.callRadioLost (s : State) : State :=
  let cs := s.calls.table
  let s : State := { s with calls := { s.calls with table := [], deferred := none, pair := none } }
  (cs.foldl (fun s c => s.raiseCleared c .radioLost) s).lowerCallNeed

/-- NO-ACCESS: each DIALING record is removed (R181). -/
def State.callNoAccess (s : State) : State :=
  (s.calls.table.filter (·.state == .dialing)).foldl (fun s c => s.clearCall c .noAccess) s

/-- Told to hold its timers (R138, R165). -/
def State.callHoldTimers (s : State) : State :=
  { s with calls :=
    { s.calls with
      timersHeld := true
      table := s.calls.table.map fun c => { c with timer := c.timer.hold s.now } } }

/-- Told to resume its timers (R138, R165); a DIALING record then sends its SETUP in LINKED (R168). -/
def State.callResumeTimers (s : State) : State :=
  let s : State :=
    { s with calls :=
      { s.calls with
        timersHeld := false
        table := s.calls.table.map fun c => { c with timer := c.timer.resume s.now } } }
  if s.svc.state == .linked then s.sendSetups else s

end Sys2Proof.Machine
end

