-- ==== Sys2Proof/Machine/Texts.lean ====
section
/-! DEFINITION. The text unit's operations: the store and its readers (R191, R192, R196, R197), the exchange that tells the
network of room (R194, R195), sending (R202, R203), and what the unit does when other units call on it (R204). -/

namespace Sys2Proof.Machine

/-! ### Counts -/

/-- A record's length: 24 plus its body (R191). -/
def StoredText.len (t : StoredText) : Nat := 24 + t.body.length

/-- An assembly's reservation: 24 plus the bodies received (R185). -/
def Assembly.reservation (a : Assembly) : Nat := 24 + (a.pieces.map fun p => p.body.length).sum

/-- The used bytes (R191). -/
def Text.used (t : Text) : Nat := (t.store.map StoredText.len).sum

/-- The reserved bytes (R188). -/
def Text.reserved (t : Text) : Nat := (t.assemblies.map Assembly.reservation).sum

/-- Free − reserved: the bytes neither used nor reserved of 4,096 (R185, R188). -/
def Text.room (t : Text) : Nat := 4096 - t.used - t.reserved

/-- Records plus open assemblies (R188). -/
def Text.occupied (t : Text) : Nat := t.store.length + t.assemblies.length

/-- STORE-AVAILABLE is due (R194). -/
def Text.availDue (t : Text) : Bool := t.capacityOwed && 1024 ≤ t.room && t.occupied ≤ 28

/-- A connection that carries signalling: LINKED, SWITCHING or RETURNING (R175, R186, R195). -/
def State.connected (s : State) : Bool :=
  s.svc.state == .linked || s.svc.state == .switching || s.svc.state == .returning

/-! ### The exchange -/

/-- The STORE need is raised in these states of the exchange (R194). -/
def Exchange.needsStore : Exchange → Bool
  | .due => true
  | .awaiting => true
  | _ => false

/-- The exchange moves, and the STORE need with it (R194, R195). -/
def State.moveExchange (s : State) (e : Exchange) : State :=
  let old := s.text.exchange
  let s : State := { s with text := { s.text with exchange := e } }
  if e.needsStore && !old.needsStore then s.raiseNeed .store
  else if old.needsStore && !e.needsStore then s.lowerNeed .store
  else s

/-- In DUE with a connection, STORE-AVAILABLE is sent and the ack wait starts (R195). -/
def State.sendAvail (s : State) : State :=
  if s.text.exchange == .due && s.connected then
    let s := s.moveExchange .awaiting
    let s : State :=
      { s with text :=
        { s.text with refusedSince := false, ackWait := startTimer s.now s.text.timersHeld 327680 } }
    (s.uplink .text 59 []).1
  else s

/-- DUE or OWED, by the test of R194; DUE is sent at once when a connection carries it (R195). -/
def State.dueOrOwed (s : State) : State :=
  if s.text.availDue then (s.moveExchange .due).sendAvail else s.moveExchange .owed

/-- The test whether STORE-AVAILABLE is due, made whenever the counts change (R194). -/
def State.testAvail (s : State) : State :=
  match s.text.exchange with
  | .owed => if s.text.availDue then s.dueOrOwed else s
  | .due => if s.text.availDue then s else s.moveExchange .owed
  | _ => s

/-- The exchange moves to RETRY, to be taken up 1966080 ticks from now (R195). -/
def State.toRetry (s : State) : State :=
  let s : State := { s with text := { s.text with ackWait := .off, retryTick := some (after s.now 1966080) } }
  s.moveExchange .retry

/-- A failed connection moves a DUE or AWAITING exchange to RETRY (R195). -/
def State.availFailed (s : State) : State := if s.text.exchange.needsStore then s.toRetry else s

/-! ### The store -/

/-- The record with this text number. -/
def Text.find? (t : Text) (n : Nat) : Option StoredText := t.store.find? (·.number == n)

/-- The record after the one with this number, if any. -/
def nextNewer (n : Nat) : List StoredText → Option Nat
  | [] => none
  | r :: rs => if r.number == n then rs.head?.map (·.number) else nextNewer n rs

/-- The next text number after the counter, 1 to 65535 and then 1 again, passing over those held (R191). -/
def Text.nextNumber (t : Text) : Nat → Nat → Nat
  | 0, n => n
  | k + 1, n => if (t.find? n).isSome then t.nextNumber k (n % 65535 + 1) else n

/-- A parcel for the host by way of the command and notice unit (R45, R196). -/
def State.toHost (s : State) (cls topic : Nat) (payload : List Byte) : State := s.offer .command cls topic payload

/-- A TEXT-HEAD (section 10.4). -/
def textHead (host ref : Nat) (r : StoredText) : List Byte :=
  [byte host, byte ref] ++ bytes2 r.number ++ fixedDigits r.originator ++ r.stamp ++ [byte r.total, byte r.mask]
    ++ bytes2 r.body.length ++ [byte (flag 0 r.complete + flag 1 r.seen)]

/-- The body bytes of a TEXT-DATA from an offset: 48 at most (R196). -/
def textBytes (r : StoredText) (offset : Nat) : List Byte := (r.body.drop offset).take 48

/-- A TEXT-DATA (section 10.4); the end flag is set when the bytes reach the body's end (R196). -/
def textData (host ref : Nat) (r : StoredText) (offset : Nat) : List Byte :=
  [byte host, byte ref] ++ bytes2 r.number ++ bytes2 offset
    ++ [byte (flag 0 (r.body.length ≤ offset + (textBytes r offset).length))] ++ textBytes r offset

/-- A parcel that the text unit hands to the command and notice unit: its topic and payload. -/
structure HostParcel where
  cls : Nat
  topic : Nat
  payload : List Byte
  deriving DecidableEq, Repr

/-- A read of a record (R196): the TEXT-HEAD or TEXT-DATA, the read cursor moved, and the seen flag set after. -/
def State.readRecord (s : State) (ref : Nat) (r : StoredText) (offset : Nat) : State × HostParcel :=
  let p : HostParcel :=
    if offset == 65535 then ⟨7, 38, textHead s.host ref r⟩ else ⟨7, 39, textData s.host ref r offset⟩
  let next := if offset == 65535 then 0 else offset + (textBytes r offset).length
  ({ s with text :=
    { s.text with
      readCursor := some (r.number, next)
      store := s.text.store.map fun t => if t.number == r.number then { t with seen := true } else t } }, p)

/-- A READ-TEXT NEXT with the unread cursor on a record: the read, and the cursor on to the next newer (R196). -/
def State.readNext (s : State) (ref : Nat) (r : StoredText) (offset : Nat) : State × HostParcel :=
  let (s, p) := s.readRecord ref r offset
  ({ s with text := { s.text with unread := nextNewer r.number s.text.store } }, p)

/-- A stored record serves the pending read (R197). -/
def State.servePending (s : State) : State :=
  match s.text.pendingRead, s.text.unread.bind s.text.find? with
  | some q, some r =>
    let (s, p) := s.readNext q.reference r q.offset
    State.toHost { s with text := { s.text with pendingRead := none } } p.cls p.topic p.payload
  | _, _ => s

/-- STORE-HALF is raised once until re-armed (R192). -/
def State.testHalf (s : State) : State :=
  if s.text.halfArmed && 2048 < s.text.used then
    State.raise { s with text := { s.text with halfArmed := false } } .storeHalf
      (bytes2 s.text.used ++ [byte s.text.store.length])
  else s

/-- A release re-arms the half flag (R192). -/
def State.rearmHalf (s : State) : State :=
  if !s.text.halfArmed && s.text.used ≤ 2048 then { s with text := { s.text with halfArmed := true } } else s

/-- The mask of the pieces present: bit i − 1 for index i (R191). -/
def pieceMask (ps : List Piece) : Nat := (ps.map fun p => 2 ^ (p.index - 1)).sum

/-- The present pieces joined in index order (R191). -/
def joinPieces (ps : List Piece) : List Byte :=
  (List.range 8).flatMap fun i => (ps.filter (·.index == i + 1)).flatMap (·.body)

/-- A closing assembly becomes a store record (R190, R191). -/
def State.commit (s : State) (a : Assembly) : State :=
  let n := s.text.nextNumber 33 (s.text.counter % 65535 + 1)
  let r : StoredText :=
    { number := n, originator := a.originator, stamp := a.stamp, total := a.total, mask := pieceMask a.pieces,
      complete := a.pieces.length == a.total, seen := false, body := joinPieces a.pieces }
  let s : State :=
    { s with text :=
      { s.text with
        assemblies := s.text.assemblies.erase a
        store := s.text.store ++ [r]
        counter := n
        unread := if s.text.unread.isNone then some n else s.text.unread } }
  let s := s.raise .textArrived
    (bytes2 n ++ [byte (flag 0 r.complete), byte r.total, byte a.pieces.length] ++ bytes2 r.body.length)
  s.servePending.testHalf.testAvail

/-! ### Sending -/

/-- The number of segments: ceil(length/40), and at least 1 (R202). -/
def OutText.segments (o : OutText) : Nat := max 1 ((o.body.length + 39) / 40)

/-- The bytes of segment j, counting from 1 (R202). -/
def OutText.segmentBytes (o : OutText) (j : Nat) : List Byte :=
  ((o.body.drop (40 * (j - 1))).take 40).map fun b => b.getD 0x20

/-- A TEXT-SEND for the segment awaited (R202). -/
def OutText.sendFields (o : OutText) : List Byte :=
  fixedDigits o.dest ++ [byte o.reference, byte o.segments, byte o.segment, byte (o.segmentBytes o.segment).length]
    ++ o.segmentBytes o.segment

/-- The SENDING entry is changed in place. -/
def State.modSending (s : State) (f : OutText → OutText) : State :=
  { s with text :=
    { s.text with outbound := s.text.outbound.map fun o => if o.state == .sending then f o else o } }

/-- The SENDING entry (R200). -/
def State.sending? (s : State) : Option OutText := s.text.outbound.find? (·.state == .sending)

/-- A segment of the SENDING entry is sent, with a fresh ack wait (R202, R203). -/
def State.sendSegment (s : State) (j : Nat) (resent : Bool) : State :=
  let s := s.modSending fun o =>
    { o with segment := j, resent := resent, wait := startTimer s.now s.text.timersHeld 327680 }
  match s.sending? with
  | some o => (s.uplink .text 61 o.sendFields).1
  | none => s

/-- The first QUEUED entry of a list becomes SENDING. -/
def promoteFirst : List OutText → List OutText
  | [] => []
  | o :: os => if o.state == .queued then { o with state := .sending } :: os else o :: promoteFirst os

/-- In LINKED with no entry SENDING, the oldest QUEUED entry becomes SENDING and its first segment is sent (R202). -/
def State.startSending (s : State) : State :=
  if s.svc.state == .linked && s.sending?.isNone && s.text.outbound.any (·.state == .queued) then
    State.sendSegment { s with text := { s.text with outbound := promoteFirst s.text.outbound } } 1 false
  else s

/-- An outbound entry that is QUEUED or SENDING (R115). -/
def OutText.live (o : OutText) : Bool := o.state == .queued || o.state == .sending

/-- Some outbound text is QUEUED or SENDING (R153, R158, R201). -/
def Text.outLive (t : Text) : Bool := t.outbound.any OutText.live

/-- The TEXT need is lowered when no entry is QUEUED or SENDING; otherwise the next may start (R203). -/
def State.afterOutbound (s : State) : State := if s.text.outLive then s.startSending else s.lowerNeed .text

/-- The SENDING entry is removed (R203). -/
def State.dropSending (s : State) : State :=
  State.afterOutbound
    { s with text := { s.text with outbound := s.text.outbound.filter (·.state != .sending) } }

/-- TEXT-FAILED (section 10.4, 10.6). -/
def State.raiseFailed (s : State) (ref cause code : Nat) : State :=
  s.raise .textFailed [byte ref, byte cause, byte code]

/-! ### Told by other units -/

/-- Connection up (R204). -/
def State.textUp (s : State) : State := s.startSending.sendAvail

/-- Entries removed from the outbound queue with TEXT-FAILED, in order of SEND-GO; the TEXT need is lowered (R204). -/
def State.failOutbound (s : State) (p : OutText → Bool) (cause : Nat) : State :=
  let gone := s.text.outbound.filter p
  let s : State := { s with text := { s.text with outbound := s.text.outbound.filter fun o => !p o } }
  let s := gone.foldl (fun s o => s.raiseFailed o.reference cause 0) s
  if s.text.outLive then s else s.lowerNeed .text

/-- RADIO-LOST (R204). -/
def State.textRadioLost (s : State) : State := (s.failOutbound OutText.live 4).availFailed

/-- NO-ACCESS (R204). -/
def State.textNoAccess (s : State) : State := (s.failOutbound (·.state == .queued) 3).availFailed

/-- Hold timers (R138, R204). -/
def State.textHoldTimers (s : State) : State :=
  { s with text :=
    { s.text with
      timersHeld := true
      ackWait := s.text.ackWait.hold s.now
      outbound := s.text.outbound.map fun o => { o with wait := o.wait.hold s.now } } }

/-- Resume timers, and sending is tested (R138, R204). -/
def State.textResumeTimers (s : State) : State :=
  State.startSending
    { s with text :=
      { s.text with
        timersHeld := false
        ackWait := s.text.ackWait.resume s.now
        outbound := s.text.outbound.map fun o => { o with wait := o.wait.resume s.now } } }

end Sys2Proof.Machine
end

