-- ==== Sys2Proof/Machine/Connection.lean ====
section
/-! DEFINITION. The radio connection coming up, failing and being lost (R115, R116, R118), the connected evaluation and its
reports (R122 to R126), and the switch and the return (R128 to R136). These reach the call and the text unit. -/

namespace Sys2Proof.Machine

/-! ### Opening and losing the connection -/

/-- The call unit and then the text unit are told to resume their timers (R128, R132, R135, R136, R138). -/
def State.resumeTimers (s : State) : State := s.callResumeTimers.textResumeTimers

/-- TRAFFIC is released, the PAGE need is lowered, and RADIO-LOST is told to the call and then the text unit (R118, R135). -/
def State.radioLost (s : State) : State := s.releaseTraffic.lowerPage.callRadioLost.textRadioLost

/-- The connection is lost (R118). -/
def State.connectionLost (s : State) : State :=
  let s := s.radioLost
  if s.servingTest then s.setService .camped else s.enterScanning true

/-- A LINK-RESULT success is taken (R115). -/
def State.linkSucceeded (s : State) : State :=
  let s := (s.releaseOpt .service s.svc.conn.window).lowerPage.modConn fun _ => Conn.idle
  s.linkUp.sendSetups.textUp

/-- The connection record after a failed attempt (R116). -/
def Conn.failed (c : Conn) (blocked : Option (Option Nat)) : Conn where
  retries := c.retries + 1
  peerBlocked := c.peerBlocked || blocked.isSome
  peerStation := match blocked with
    | some (some st) => some st
    | _ => c.peerStation
  peerCount := if blocked.isSome then c.peerCount + 1 else c.peerCount
  window := none
  req := .unbuilt
  deadline := none

/-- The opening is refused after the third failure (R116). -/
def State.openingRefused (s : State) (c : Conn) : State :=
  let s := (s.setService .camped).lowerPage.callNoAccess.textNoAccess
  let s := if c.peerBlocked then s.raise .accessBlocked [1, byteOr c.peerStation, byte c.peerCount] else s
  s.modConn fun c => { c with retries := 0, peerCount := 0 }

/-- An access attempt fails (R116); `blocked` tells of a peer's blocking, with its station if known. A LINK-REQ that is being
sent then, and completes, does not count for the next attempt (assumption log, entry 17). -/
def State.linkFailed (s : State) (blocked : Option (Option Nat)) : State :=
  if s.svc.state != .connecting then s
  else
    let old := s.svc.conn
    let c := old.failed blocked
    let s := ((s.releaseOpt .service old.window).removeReq old.req).modConn fun _ => c
    if c.retries < 3 then s.requestLink else s.openingRefused c

/-! ### Connected ranking and the reported set -/

/-- The entry threshold E = F_s + 16·m (R122). -/
def State.entryThreshold (s : State) (fs : Int) : Int := fs + 16 * (s.meas.params.margin : Int)

/-- A record is better in connection: LISTED or FOUND, F present and R_n > E (R122). -/
def Cell.connectedBetter (c : Cell) (e : Int) : Bool :=
  c.neighbour && match c.level with
    | some f => e < c.rankOf f
    | none => false

/-- The order of members: higher rank first, ties to the lower channel, then the lower beacon code (R123). -/
def Cell.ranksAbove (a b : Cell) : Bool := b.rankOr < a.rankOr || (a.rankOr == b.rankOr && keyBelow a.key b.key)

/-- A member leaves: its record has F absent, or is LISTED or FOUND with a rank at most E − 16 (R123). -/
def Cell.leavesSet (c : Cell) (e : Int) : Bool :=
  match c.level with
  | none => true
  | some f => c.neighbour && c.rankOf f ≤ e - 16

/-- A newcomer joins the members, kept best first: if there are fewer than 4, or in place of a weaker weakest one (R123). -/
def joinSet (members : List Cell) (c : Cell) : List Cell :=
  if members.length < 4 then insertBy Cell.ranksAbove c members
  else
    match members.getLast? with
    | some w => if c.ranksAbove w then insertBy Cell.ranksAbove c members.dropLast else members
    | none => members

/-- The bytes of a rank or level, a free value when it is absent (assumption log, entry 25). -/
def rankBytes (n : Nat) : Option Int → List Byte
  | some v => sbytes2 v
  | none => bytes2 (Config.absentRank n).toNat

/-- The members of a HANDOVER-REPORT: key and rank (section 10.5). -/
def State.memberBytes (s : State) : Nat → List CellKey → List Byte
  | _, [] => []
  | n, k :: ks =>
    keyBytes k ++ rankBytes n ((s.cell? k).bind fun c => c.level.map c.rankOf) ++ s.memberBytes (n + 1) ks

/-- Some value of a HANDOVER-REPORT is absent. -/
def State.reportLacks (s : State) : Bool :=
  (s.serving?.bind (·.level)).isNone || s.ho.reported.any fun k => ((s.cell? k).bind (·.level)).isNone

/-- A HANDOVER-REPORT is offered, replacing one still queued or held, and counted (R125, R126). -/
def State.offerReport (s : State) : State :=
  let s := s.dropReport
  let fields :=
    keyBytesOr (s.serving?.map (·.key)) ++ rankBytes s.freeCount (s.serving?.bind (·.level))
      ++ [byte s.ho.reported.length] ++ s.memberBytes (s.freeCount + 1) s.ho.reported
  let s : State := if s.reportLacks then { s with freeCount := s.freeCount + 5 } else s
  let s : State := { s with ho := { s.ho with report := some s.line.nextSerial, count := bump255 s.ho.count } }
  s.offerRadio .handover 2 63 fields

/-- A report is due: it is offered if the cap allows and the state is LINKED, and the interval starts again (R125, R126). -/
def State.reportDue (s : State) : State :=
  let k := s.meas.params.repCount
  let s :=
    if s.svc.state == .linked && !s.ho.reported.isEmpty && (k == 0 || s.ho.count < k) then s.offerReport else s
  { s with ho := { s.ho with nextReport := some (after s.now (s.meas.params.interval * 8192)) } }

/-- The connected evaluation (R122, R123). -/
def State.connectedEvaluation (s : State) : State :=
  match s.serving?.bind (·.level) with
  | none => s
  | some fs =>
    let e := s.entryThreshold fs
    let delay := scaledDelay (s.meas.params.nRep * 16384 / 25) s.svc.mobility
    let s : State :=
      { s with meas := { s.meas with
        cells := s.meas.cells.map fun c =>
          if c.role == .serving then c else c.clock (c.connectedBetter e) s.now } }
    let members := (s.ho.reported.filterMap s.cell?).filter fun c => !c.leavesSet e
    let s := State.setEmptied { s with ho := { s.ho with reported := members.map (·.key) } }
    let news := sortBy Cell.ranksAbove
      (s.meas.cells.filter fun c =>
        c.connectedBetter e && !s.ho.reported.contains c.key && c.dueSince s.now delay)
    let joined := news.foldl joinSet (sortBy Cell.ranksAbove members)
    let wasEmpty := s.ho.reported.isEmpty
    let s : State :=
      { s with ho :=
        { s.ho with
          reported := joined.map (·.key)
          count := if wasEmpty && !joined.isEmpty then 0 else s.ho.count } }
    if joined.any fun c => !members.any (·.key == c.key) then s.reportDue else s

/-! ### The switch and the return -/

/-- The switch record changes. -/
def State.modSwitch (s : State) (f : Switch → Switch) : State := { s with ho := { s.ho with switch := s.ho.switch.map f } }

/-- The switch record is dropped. -/
def State.dropSwitch (s : State) : State := { s with ho := { s.ho with switch := none } }

/-- A switch fails because no SWITCH window can be had (R128). -/
def State.switchBlocked (s : State) (c : Switch) : State :=
  let s := s.dropSwitch.raise .handoverFailed (keyBytes c.target ++ [byte SwitchCause.blocked.code, 0])
  s.releaseUplink.resumeLinked.resumeTimers

/-- A return fails (R135). -/
def State.returnFailed (s : State) (c : Switch) : State :=
  let s := ((s.releaseOpt .handover c.window).discardUplink).dropSwitch
  (s.radioLost.enterScanning true).resumeTimers

/-- The length of the window of a phase: D for a switch, 16384 ticks for a return (R128, R133). -/
def Switch.windowLen (c : Switch) : Nat :=
  match c.phase with
  | .switch => c.ticks
  | .return_ => 16384

/-- The SWITCH window of the current phase was placed (R128, R133). -/
def State.switchPlaced (s : State) (id : Nat) : State :=
  s.modSwitch fun c => { c with window := some id, req := .unbuilt, ended := false }

/-- The SWITCH window of the current phase is requested; refused, the switch or the return fails (R128, R129, R133). -/
def State.requestSwitch (s : State) (c : Switch) : State :=
  s.ask (.floating .switch .handover c.windowLen s.now (some c.latest)) .switch (fun s id _ _ => s.switchPlaced id)
    fun s _ =>
    match c.phase with
    | .switch => s.switchBlocked c
    | .return_ => s.returnFailed c

/-- A switch fails after its SWITCH-REQ was sent (R131). -/
def State.switchFailed (s : State) (c : Switch) (cause : SwitchCause) : State :=
  let s := (s.releaseOpt .handover c.window).penalise c.target
  let d : Switch :=
    { c with
      phase := .return_, cause := some cause, latest := after s.now 32768, window := none, req := .unbuilt, ended := false }
  (State.setService { s with ho := { s.ho with switch := some d } } .returning).requestSwitch d

/-- The phase ends without a result after its request was sent (R131, R134). -/
def State.phaseFailed (s : State) (c : Switch) : State :=
  match c.phase with
  | .switch => s.switchFailed c .noResult
  | .return_ => s.returnFailed c

/-- The topic of the request of a phase: SWITCH-REQ or RETURN-REQ (section 10.1). -/
def SwitchPhase.topic : SwitchPhase → Nat
  | .switch => 64
  | .return_ => 65

/-- The key of a phase: the target, or the old serving key (R130). -/
def Switch.key (c : Switch) : CellKey :=
  match c.phase with
  | .switch => c.target
  | .return_ => c.old

/-- The SWITCH-REQ or RETURN-REQ of the current phase is offered (R129, R133). -/
def State.offerSwitchReq (s : State) (c : Switch) (id : Nat) : State :=
  (s.modSwitch fun d => { d with req := .offered s.line.nextSerial }).offerRadio .handover 2 c.phase.topic
    (byte id :: keyBytes c.key)

/-- The outcome of the SWITCH window of the current phase (R129, R131, R133, R134): before the request is sent the window is
requested again; a request being sent runs to its end first. -/
def State.switchOutcome (s : State) (c : Switch) : State :=
  match c.req with
  | .sent => s.phaseFailed c
  | .unbuilt => s.requestSwitch c
  | .offered serial =>
    if s.line.isBeingSent serial then (s.remove serial).modSwitch fun d => { d with window := none, ended := true }
    else (s.remove serial).requestSwitch c

/-- The handover unit takes a report on its window (R129, R133). -/
def State.switchReport (s : State) (id : Nat) (r : Report) : State :=
  match s.ho.switch with
  | none => s
  | some c =>
    if c.window != some id then s
    else
      match r with
      | .standing => s
      | .shortened _ => s
      | .active => s.offerSwitchReq c id
      | .outcome _ => s.switchOutcome c

/-- The line interface tells of the SWITCH-REQ or RETURN-REQ; one whose window has ended decides what the outcome means
(R129; assumption log, entry 17). -/
def State.switchTold (s : State) (serial : Nat) (sent : Bool) : State :=
  match s.ho.switch with
  | none => s
  | some c =>
    if c.req != .offered serial then s
    else if sent then
      let s := s.modSwitch fun d => { d with req := .sent }
      if c.ended then s.phaseFailed c else s
    else if c.ended then s.requestSwitch c
    else s

/-- A SWITCH-RESULT success in phase SWITCH (R132); the anchor field is at byte 6. -/
def State.switchSucceeded (s : State) (c : Switch) (p : List Byte) (arrival : Tick) : State :=
  let s := s.releaseOpt .handover c.window
  let s := ((s.makeServing c.target).setAnchor p 6 arrival).rankingReset
  let s := State.enterRing { s with svc := { s.svc with campTick := some arrival } } (some c.old) c.target arrival
  let s := s.dropSwitch.releaseUplink.resumeLinked
  (s.raise .cellChanged (keyBytes c.old ++ keyBytes c.target ++ [3])).resumeTimers

/-- The cause recorded for HANDOVER-FAILED; a switch that has entered its return holds one (R131). -/
def Switch.causeBytes (c : Switch) : List Byte :=
  match c.cause with
  | some d => [byte d.code, byte d.netCode]
  | none => [byte SwitchCause.noResult.code, 0]

/-- A SWITCH-RESULT success in phase RETURN (R135). -/
def State.returnSucceeded (s : State) (c : Switch) (p : List Byte) (arrival : Tick) : State :=
  let s := (((s.releaseOpt .handover c.window).setAnchor p 6 arrival).rankingReset).dropSwitch
  let s := s.releaseUplink.resumeLinked
  (s.raise .handoverFailed (keyBytes c.target ++ c.causeBytes)).resumeTimers

/-- The handover unit abandons its switch (R136). -/
def State.abandonSwitch (s : State) : State :=
  match s.ho.switch with
  | none => s
  | some c => (((s.releaseOpt .handover c.window).removeReq c.req).discardUplink).dropSwitch

end Sys2Proof.Machine
end

