-- ==== Sys2Proof/Machine/Jobs.lean ====
section
/-! DEFINITION. What each unit does with the reports on its windows and with what the line interface tells it, and the
carrying out of the work handed on within one handling. -/

namespace Sys2Proof.Machine

/-! ### Reports on windows -/

/-- The scan did not run: a queued or held SCAN-ORDER goes, and a new SCAN window is requested from now (R103). The manual does
not say whether one that is being sent then, and completes, counts for the new window: the model disregards that "sent"
(assumption log, entry 17). -/
def State.scanAgain (s : State) (c : Scan) : State := (s.removeReq c.order).requestScan s.now

/-- The controller takes a report on its SCAN window (R103). -/
def State.scanReport (s : State) (id : Nat) (r : Report) : State :=
  match s.svc.scan with
  | none => s
  | some c =>
    if c.window != some id then s
    else
      match r with
      | .standing => (s.modScan fun c => { c with order := .offered s.line.nextSerial }).offerRadio .service 2 68 [byte id]
      | .active => s
      | .shortened _ => s
      | .outcome (.yielded _) => s.scanAgain c
      | .outcome (.lapsed _) => s.scanAgain c
      | .outcome _ =>
        if c.order == .sent then s.modScan fun c => { c with deadline := some (after s.now 16384) } else s.scanAgain c

/-- The peer's station, when a window gave way to a peer (R106, R116). -/
def blockedBy : GaveWay → Option (Option Nat)
  | .peer st => some (some st)
  | .own => none

/-- The controller takes a report on the ACCESS window of a camp attempt (R106). -/
def State.campReport (s : State) (c : Camp) (r : Report) : State :=
  match r with
  | .standing => s
  | .shortened _ => s
  | .active => (s.modCamp fun c => { c with req := .offered s.line.nextSerial }).offerRadio .service 2 56 (keyBytes c.target)
  | .outcome (.yielded by_) => (s.removeReq c.req).campNotRun (blockedBy by_)
  | .outcome (.lapsed _) => (s.removeReq c.req).campNotRun none
  | .outcome _ =>
    if c.req == .sent then s.modCamp fun c => { c with window := none, deadline := some (after s.now 163840) }
    else (s.removeReq c.req).campNotRun none

/-- The controller takes a report on the ACCESS window of an access attempt (R115, R116). -/
def State.linkReport (s : State) (r : Report) : State :=
  match r with
  | .standing => s
  | .shortened _ => s
  | .active => s.offerLinkReq
  | .outcome (.yielded by_) => s.linkFailed (blockedBy by_)
  | .outcome (.lapsed _) => s.linkFailed none
  | .outcome _ =>
    if s.svc.conn.req == .sent then s.modConn fun c => { c with window := none, deadline := some (after s.now 163840) }
    else s.linkFailed none

/-- The controller takes a report on an ACCESS window: of its camp attempt or of its access attempt. -/
def State.accessReport (s : State) (id : Nat) (r : Report) : State :=
  match s.svc.camp with
  | some c =>
    if c.window == some id then s.campReport c r
    else if s.svc.conn.window == some id then s.linkReport r
    else s
  | none => if s.svc.conn.window == some id then s.linkReport r else s

/-- The controller takes a report on a TRAFFIC window (R117, R118). -/
def State.trafficReport (s : State) (r : Report) : State :=
  match r with
  | .standing => s
  | .active => s.chunkActive
  | .shortened _ => s.tryChunk
  | .outcome _ => if s.svc.state == .linked then s.absenceRuns.tryChunk else s

/-- A cycle record is changed in place. -/
def State.modCycle (s : State) (p : Cycle → Bool) (f : Cycle → Cycle) : State :=
  { s with pag := { s.pag with cycles := s.pag.cycles.map fun c => if p c then f c else c } }

/-- A cycle record is dropped when its watch is ANSWERED or MISSED and its frame end has been reached (R146). -/
def Cycle.over (c : Cycle) : Bool := c.ended && (c.status == .answered || c.status == .missed)

/-- The cycle records that are over are dropped (R146). -/
def State.dropOver (s : State) : State := { s with pag := { s.pag with cycles := s.pag.cycles.filter fun c => !c.over } }

/-- A watch becomes MISSED (R146, R150). -/
def State.watchMissed (s : State) (id : Nat) (r : MissReason) : State :=
  ((s.modCycle (·.watch == some id) fun c => { c with status := .missed, deadline := none }).dropOver).missWatch r

/-- The paging unit takes a report on a WATCH window (R146). A window that ran its full time ended at its frame's end tick. -/
def State.watchReport (s : State) (id : Nat) (r : Report) : State :=
  match s.pag.cycles.find? (·.watch == some id) with
  | none => s
  | some c =>
    if !s.pag.running || (c.status != .waiting && c.status != .active) then s
    else
      match r with
      | .standing => s
      | .shortened _ => s
      | .active => s.modCycle (·.watch == some id) fun c => { c with status := .active }
      | .outcome .fullTime =>
        s.modCycle (·.watch == some id) fun c => { c with status := .awaiting, deadline := some (after c.stop 3277) }
      | .outcome .released => s
      | .outcome (.yielded _) => s.watchMissed id .peer
      | .outcome (.cut _) => s.watchMissed id .peer
      | .outcome (.lapsed _) => s.watchMissed id .lapsed

/-- The paging unit uses the outcome of a FULL MEASURE window for rounds since full alone (R144, R146). -/
def State.pagingMeasureReport (s : State) (id : Nat) (r : Report) : State :=
  match r with
  | .outcome o =>
    if s.pag.fullMeasures.contains id then
      let s : State := { s with pag := { s.pag with fullMeasures := s.pag.fullMeasures.filter (· != id) } }
      if o == .fullTime || o == .released then s else s.setRounds 255
    else s
  | _ => s

/-- The INFO record changes. -/
def State.modInfo (s : State) (f : Info → Info) : State := { s with pag := { s.pag with info := s.pag.info.map f } }

/-- An INFO window was placed: it has a record (R149). -/
def State.infoPlaced (s : State) (id : Nat) : State :=
  { s with pag := { s.pag with info := some { window := some id, req := .unbuilt, deadline := none } } }

/-- An INFO window is requested; placed it has a record, and refused there is none (R149). -/
def State.requestInfo (s : State) : State :=
  s.ask (.floating .info .paging 655 s.now (some (after s.now 8192))) .info (fun s id _ _ => s.infoPlaced id)
    fun s _ => { s with pag := { s.pag with info := none } }

/-- The paging unit takes a report on its INFO window (R149). A PARAMS-REQ that is being sent when its window ends counts as
still queued: the window is requested again at once, and the later "sent" is disregarded (assumption log, entry 17). -/
def State.infoReport (s : State) (id : Nat) (r : Report) : State :=
  match s.pag.info with
  | none => s
  | some i =>
    if i.window != some id then s
    else
      match r with
      | .standing => s
      | .shortened _ => s
      | .active =>
        (s.modInfo fun i => { i with req := .offered s.line.nextSerial }).offerRadio .paging 2 67
          (byte id :: keyBytesOr (s.serving?.map (·.key)))
      | .outcome (.yielded _) => (s.removeReq i.req).requestInfo
      | .outcome (.lapsed _) => (s.removeReq i.req).requestInfo
      | .outcome _ =>
        if i.req == .sent then s.modInfo fun i => { i with window := none, deadline := some (after s.now 3277) }
        else (s.removeReq i.req).requestInfo

/-- The requesting unit takes a report on its window (R56). -/
def State.unitReport (s : State) (owner : UnitId) (kind : WinKind) (id : Nat) (r : Report) : State :=
  match owner, kind with
  | .service, .scan => s.scanReport id r
  | .service, .access => s.accessReport id r
  | .service, .traffic => s.trafficReport r
  | .handover, .switch => s.switchReport id r
  | .paging, .watch => s.watchReport id r
  | .paging, .measure => s.pagingMeasureReport id r
  | .paging, .info => s.infoReport id r
  | _, _ => s

/-- A report goes to the requesting unit and then, for a MEASURE window, to the measurement unit (R52, R56). -/
def State.takeReport (s : State) (owner : UnitId) (kind : WinKind) (id : Nat) (r : Report) : State :=
  let s := s.unitReport owner kind id r
  if kind == .measure then s.roundReport id r else s

/-! ### What the line interface tells -/

/-- A request of a unit told "sent". -/
def State.requestSent (s : State) (topic serial : Nat) : State :=
  match topic with
  | 56 => s.modCamp fun c => { c with req := c.req.toldSent serial }
  | 57 => s.modConn fun c => { c with req := c.req.toldSent serial }
  | 66 =>
    { s with meas := { s.meas with rounds := s.meas.rounds.map fun r => { r with req := r.req.toldSent serial } } }
  | 67 => s.modInfo fun i => { i with req := i.req.toldSent serial }
  | 68 => s.modScan fun c => { c with order := c.order.toldSent serial }
  | _ => s

/-- The HANDOVER-REPORT is no longer queued or held (R121). -/
def State.reportGone (s : State) (serial : Nat) : State :=
  if s.ho.report == some serial then { s with ho := { s.ho with report := none } } else s

/-- A unit is told "sent" or "removed unsent" for its entry (R25, R26). -/
def State.told (s : State) (sent : Bool) (e : TxEntry) (tail : Tick) : State :=
  match e.topic with
  | 1 => if sent then s.claimSent e.serial tail else s.claimUnsent e.serial
  | 33 => s.noticeGone e.serial sent
  | 63 => s.reportGone e.serial
  | 64 => s.switchTold e.serial sent
  | 65 => s.switchTold e.serial sent
  | t => if sent then s.requestSent t e.serial else s

/-! ### Carrying out -/

/-- A close whose tick was reached during a switch is taken when LINKED is entered again (R119). -/
def State.closeCheck (s : State) : State :=
  match s.svc.traffic.close with
  | some t => if s.svc.state == .linked && reached s.now t then s.idleClose else s
  | none => s

/-- A requesting unit that is still in place is told "placed" after the outcomes of the windows its request displaced (R61). -/
def State.takePlaced (s : State) (w : Waiter) (id : Nat) (start stop : Tick) : State :=
  if (s.window? id).isNone then s
  else
    match w with
    | .scan => s.scanPlaced id
    | .confirm => s.confirmPlaced id start stop
    | .camp => s.campPlaced id
    | .link => s.linkPlaced id
    | .chunk => s
    | .switch => s.switchPlaced id
    | .info => s.infoPlaced id
    | .watch c => if s.pag.running then s.watchPlaced c id else s
    | .round c full => if s.pag.running then s.cycleRoundPlaced c full id start stop else s

/-- The work of one job. -/
def State.runJob (s : State) : Job → State
  | .report owner kind id r => s.takeReport owner kind id r
  | .placed w id start stop => s.takePlaced w id start stop
  | .roundDone id skip => s.roundDone id skip
  | .told sent e tail => s.told sent e tail
  | .pagingRelease => s.pagingRelease
  | .linkFailed blocked => s.linkFailed blocked
  | .campNotRun blocked => s.campNotRun blocked
  | .openCheck => s.openConnection
  | .closeCheck => s.closeCheck

/-- The work handed on is carried out in the order in which it was handed on, with a bound on its amount (assumption log,
entry 9). -/
def State.runAgenda : Nat → State → State
  | 0, s => s
  | n + 1, s =>
    match s.agenda with
    | [] => s
    | j :: js => State.runAgenda n (State.runJob { s with agenda := js } j)

/-- All the work handed on within a handling. -/
def State.settle (s : State) : State := s.runAgenda 256

/-! ### The wake tick -/

/-- The due timers of R153: the scan retry, the assembly timeouts and the STORE-AVAILABLE retry. -/
def State.dueTimers (s : State) : List Tick :=
  (s.svc.scan.bind (·.retry)).toList ++ (s.text.assemblies.map fun a => after a.first 3932160) ++ s.text.retryTick.toList

/-- The start ticks of the own windows that are not ACTIVE (R153). -/
def State.dueStarts (s : State) : List Tick := (s.air.plan.filter (·.state != .active)).map (·.start)

/-- The wake tick (R154). -/
def State.wakeTick (s : State) : Option Tick :=
  earliestOf ((s.dueStarts.map fun t => before t s.wakeLead) ++ s.dueTimers.map fun t => before t s.settleTicks)

/-- In DOZE the wake tick is set afresh whenever its inputs change (R154). -/
def State.refreshWake (s : State) : State :=
  if s.pag.power == .doze then { s with pag := { s.pag with wake := s.wakeTick } } else s

/-- The end of every handling: the work handed on, the NOTICE of what was recorded, and the wake tick. -/
def State.finish (s : State) (before : Command) : State := (s.settle.tellHost before).refreshWake

/-- A command's handling. While RESET_N is low nothing happens (R31). -/
def State.act (s : State) (f : State → State) : Host.Outcome State Fault Refusal :=
  .next (if s.inReset then s else (f s).finish s.cmd)

end Sys2Proof.Machine
end

