-- ==== Sys2Proof/Machine/Handling.lean ====
section
/-! DEFINITION. How a unit handles the oldest record of the reception queue (R30, R35, R36, R43, R207, R208), and how a timed
event is taken (R47). -/

namespace Sys2Proof.Machine

/-! ### Timed events -/

/-- The event of an optional deadline: the counter comes to it, and the effect follows; without the deadline there is no event
(R47; assumption log, entries 2 and 3). -/
def State.atTick (s : State) (t : Option Tick) (f : State → State) : State :=
  match t with
  | some t => f (s.reach t)
  | none => s

/-- The deadline of a running timer (R138, R165). -/
def Timer.deadline : Timer → Option Tick
  | .running d => some d
  | _ => none

/-! ### Host commands -/

/-- A command's outcome, its detail, and the parcels that go before and after its ANSWER (R35). -/
structure Reply where
  outcome : Answered
  detail : List Byte
  first : List HostParcel
  parcels : List HostParcel
  deriving DecidableEq, Repr

/-- A refusal: no detail and no parcels (section 10.4). -/
def Reply.refuse (o : Answered) : Reply := { outcome := o, detail := [], first := [], parcels := [] }

/-- DONE with its detail. -/
def Reply.done (detail : List Byte) : Reply := { outcome := .done, detail := detail, first := [], parcels := [] }

/-- DONE with its detail and parcels to follow. -/
def Reply.doneWith (detail : List Byte) (parcels : List HostParcel) : Reply :=
  { outcome := .done, detail := detail, first := [], parcels := parcels }

/-- The host reference of a command: byte 1, or 0 (R35). -/
def RxRecord.ref (r : RxRecord) : Nat := u8 r.payload 1

/-- The ANSWER of a command (section 10.4). -/
def answerPayload (r : RxRecord) (o : Answered) (detail : List Byte) : List Byte :=
  [byte r.source, byte r.topic, byte r.ref, byte o.code] ++ detail

/-- Commands an UNSET part takes: SETUP and STATUS (R32). -/
def takenUnset (topic : Nat) : Bool := topic == 8 || topic == 9

/-- Commands a shelved part takes: UNSHELVE, STATUS and RESTART (R36). -/
def takenShelved (topic : Nat) : Bool := topic == 12 || topic == 9 || topic == 10

/-- The checks of R36 that come before a command's own. -/
def State.preCheck (s : State) (r : RxRecord) : Option Answered :=
  if isShort r.topic r.payload then some .value
  else if s.svc.state == .unset && !takenUnset r.topic then some .unset
  else if s.svc.state == .shelved && !takenShelved r.topic then some .shelved
  else none

/-- The command's handling begins: the host linger is set, and no NOTICE is built (R42, R43). -/
def State.beginCommand (s : State) (r : RxRecord) : State :=
  { s with cmd := { s.cmd with linger := some (after r.arrival 3277), handling := true } }

/-- Parcels for the host, in order (R35). -/
def State.toHostAll (s : State) (ps : List HostParcel) : State := ps.foldl (fun s p => s.toHost p.cls p.topic p.payload) s

/-- The command's handling ends: its record is completed, the ANSWER and its parcels are offered in order, and a NOTICE may then
be built (R30, R35, R42). -/
def State.endCommand (s : State) (r : RxRecord) (y : Reply) : State :=
  let s := s.completeRecord.toHostAll y.first
  let s := (s.toHost 4 32 (answerPayload r y.outcome y.detail)).toHostAll y.parcels
  { s with cmd := { s.cmd with handling := false } }

/-- A host command's own handling: a new state and the reply. -/
abbrev Handler := State → RxRecord → State × Reply

/-- The oldest record is a host command of this topic: it is handled and answered (R30, R35, R36). -/
def State.hostCommand (topic : Nat) (h : Handler) (s : State) : State :=
  match s.line.rxq with
  | [] => s
  | r :: _ =>
    if r.topic != topic then s
    else
      let s := s.beginCommand r
      let (s, y) := match s.preCheck r with
        | some o => (s, Reply.refuse o)
        | none => h s r
      s.settle.endCommand r y

/-- A refused command changes nothing. -/
def State.refuse (s : State) (o : Answered) : State × Reply := (s, Reply.refuse o)

/-- A command answered DONE. -/
def State.done (s : State) (detail : List Byte) : State × Reply := (s, Reply.done detail)

/-! ### Transceiver and peer parcels -/

/-- The oldest record is a parcel of this topic from the transceiver or a peer: short or malformed it is discarded, else
handled; either way its record is completed (R30, R207, R208). -/
def State.radioParcel (topic : Nat) (h : State → RxRecord → State) (s : State) : State :=
  match s.line.rxq with
  | [] => s
  | r :: _ =>
    if r.topic != topic then s
    else
      let s := if isShort r.topic r.payload || isMalformed r.topic r.payload then s else h s r
      s.settle.completeRecord

end Sys2Proof.Machine
end

