-- ==== Sys2Proof/Machine/AirtimeEvents.lean ====
section
/-! DEFINITION. The commands of the airtime scheduler (chapter 3): CLAIM and WITHDRAW records and its timed events. -/

namespace Sys2Proof.Machine

/-- The claim of a CLAIM record, with its class from the tag (R69, R70). -/
def claimOf (r : RxRecord) : Claim where
  station := r.source
  id := u8 r.payload 1
  cls := r.cls
  kind := u8 r.payload 2
  start := after r.arrival (u16 r.payload 3)
  stop := after (after r.arrival (u16 r.payload 3)) (u16 r.payload 5)

/-- An accepted CLAIM is taken: a length of 0 is discarded; a stored claim displaces the own windows it outranks (R66,
R70, R71). -/
def State.takeClaim (s : State) (r : RxRecord) : State :=
  if u16 r.payload 5 == 0 then s
  else
    match storeClaim (claimOf r) s.air.peers with
    | none => s
    | some ps => State.displaceFor { s with air := { s.air with peers := ps } } (claimOf r) r.arrival

/-- CLAIM (R70, R71). -/
def execClaim (s : State) : Host.Outcome State Fault Refusal := s.act (State.radioParcel 1 State.takeClaim)

/-- An accepted WITHDRAW is taken (R72). -/
def State.takeWithdraw (s : State) (r : RxRecord) : State :=
  { s with air :=
    { s.air with peers := withdrawClaim r.source (u8 r.payload 1) (u16 r.payload 2) r.arrival s.air.peers } }

/-- WITHDRAW (R72). -/
def execWithdraw (s : State) : Host.Outcome State Fault Refusal := s.act (State.radioParcel 2 State.takeWithdraw)

/-- CLAIM_EXPIRY: a claim is removed when the counter reaches its end (R69). -/
def execClaimExpiry (station id : Nat) (s : State) : Host.Outcome State Fault Refusal :=
  s.act fun s =>
    s.atTick ((s.air.peers.find? fun c => c.station == station && c.id == id).map (·.stop)) fun s =>
      { s with air := { s.air with peers := s.air.peers.filter fun c => !(c.station == station && c.id == id) } }

/-- ANCHOR_REBASE: the anchor's tick moves on by 2^24 ticks (R51). -/
def execAnchorRebase (s : State) : Host.Outcome State Fault Refusal :=
  s.act fun s =>
    match s.air.anchor with
    | none => s
    | some a =>
      s.atTick (some (after a.tick (2 ^ 24))) fun s =>
        { s with air := { s.air with anchor := some { a with tick := after a.tick (2 ^ 24) } } }

/-- The own window with this id in this state. -/
def State.windowIn (s : State) (id : Nat) (st : WinState) : Option Window :=
  s.air.plan.find? fun w => w.id == id && w.state == st

/-- CLAIM_OFFER: a PLANNED window's CLAIM is offered at start − 32768 (R63). -/
def execClaimOffer (id : Nat) (s : State) : Host.Outcome State Fault Refusal :=
  s.act fun s =>
    match s.windowIn id .planned with
    | some w => (s.reach (before w.start 32768)).offerClaim w
    | none => s

/-- An OFFERED window at its stand deadline: it lapses UNSENT, unless its CLAIM is being sent, whose attempt then decides
(R65). -/
def State.standDeadline (s : State) (w : Window) : State :=
  match w.claim with
  | none => s.lapse w false
  | some serial => if s.line.isBeingSent serial then s.remove serial else (s.remove serial).lapse w false

/-- STAND_DEADLINE, at start − 66 (R65). -/
def execStandDeadline (id : Nat) (s : State) : Host.Outcome State Fault Refusal :=
  s.act fun s =>
    match s.windowIn id .offered with
    | some w => (s.reach (before w.start 66)).standDeadline w
    | none => s

/-- A window becomes ACTIVE: this one alone (R66). -/
def State.startWindow (s : State) (w : Window) : State :=
  { s with air := { s.air with plan := s.air.plan.map fun v => if v == w then { v with state := .active } else v } }

/-- WINDOW_START: a STANDING window becomes ACTIVE (R66). -/
def execWindowStart (id : Nat) (s : State) : Host.Outcome State Fault Refusal :=
  s.act fun s =>
    match s.windowIn id .standing with
    | some w => ((s.reach w.start).startWindow w).reportWindow w .active
    | none => s

/-- The outcome of an ACTIVE window whose end is reached: FULL-TIME, or CUT if a cut set its end (R66). -/
def Window.endOutcome (w : Window) : WinOutcome :=
  match w.cut with
  | some by_ => .cut by_
  | none => .fullTime

/-- WINDOW_END: an ACTIVE window is removed (R66). -/
def execWindowEnd (id : Nat) (s : State) : Host.Outcome State Fault Refusal :=
  s.act fun s =>
    match s.windowIn id .active with
    | some w => ((s.reach w.stop).leavePlan id).reportWindow w (.outcome w.endOutcome)
    | none => s

/-- The queued CLAIM of a window id, with its start tick (R26). -/
def Line.queuedClaim (l : Line) (id : Nat) : Option (TxEntry × Tick) :=
  l.txq.findSome? fun e =>
    match e.span with
    | some (.claim start _) => if e.topic == 1 && u8 e.payload 1 == id then some (e, start) else none
    | _ => none

/-- CLAIM_START_REMOVAL: at the window's start tick a queued CLAIM not being sent is removed and the scheduler told; one being
sent runs its attempt to the end (R26). -/
def execClaimStartRemoval (id : Nat) (s : State) : Host.Outcome State Fault Refusal :=
  s.act fun s =>
    match s.line.queuedClaim id with
    | none => s
    | some (e, start) =>
      let s := s.reach start
      if s.line.isBeingSent e.serial then s.remove e.serial else (s.remove e.serial).push (.told false e start)

end Sys2Proof.Machine
end

