-- ==== Sys2Proof/Machine/CallEvents.lean ====
section
/-! DEFINITION. The commands of the call unit (chapter 8): the host's six call commands, CALL-EVENT records and the call
timers. -/

namespace Sys2Proof.Machine

/-! ### Host commands -/

/-- A handle field of 0 or above 15 (section 8.3, R209). -/
def handleBad (h : Nat) : Bool := h == 0 || 15 < h

/-- A command that names a handle in byte 2: out of range VALUE, no record STATE (section 8.3). -/
def State.withHandle (s : State) (r : RxRecord) (f : Call → State × Reply) : State × Reply :=
  let h := u8 r.payload 2
  if handleBad h then s.refuse .value
  else
    match s.call? h with
    | none => s.refuse .state
    | some c => f c

/-- The record that DIAL makes (R167). -/
def State.dialed (s : State) (number : List Nat) : Call where
  handle := s.nextHandle 15 (s.calls.counter % 15 + 1)
  out := true
  state := .dialing
  number := some number
  waiting := false
  cause := none
  timer := s.timerFor .dialing
  transaction := s.freeTransaction

/-- DIAL's own checks and effect (R167, R168). -/
def State.dial (s : State) (r : RxRecord) : State × Reply :=
  if !digitsOk r.payload 2 then s.refuse .value
  else if s.stepInFlight then s.refuse .busy
  else if s.foreground?.isSome then s.refuse .state
  else if 4 ≤ s.calls.table.length then s.refuse .full
  else
    let c := s.dialed (digitsAt r.payload 2)
    let s := s.addCall c
    (if s.svc.state == .linked then s.sendSetups else s).done [byte c.handle]

/-- DIAL (R167). -/
def execDial (s : State) : Host.Outcome State Fault Refusal := s.act (State.hostCommand 14 State.dial)

/-- The CONNECT of an answered record, which enters ANSWERING (R169, R171). -/
def State.connectCall (s : State) (c : Call) : State := (s.signal' .connect c).enterCall c.handle .answering

/-- A record is ended from the handset's side: a DIALING one is removed, any other sends RELEASE (R171, R172). -/
def State.endCall (s : State) (c : Call) : State :=
  if c.state == .dialing then s.clearCall c .local_ else s.releaseCall c .local_

/-- ANSWER with HOLD and a record in the foreground (R170). -/
def State.answerHold (s : State) (c fg : Call) : State × Reply :=
  if fg.state != .connected || s.anyHeld then s.refuse .state
  else if s.noRoom 1 then s.refuse .busy
  else
    let was := s.calls.table
    let s := (s.signal' .hold fg).enterCall fg.handle .holding
    (State.announce { s with calls := { s.calls with deferred := some c.handle } } was).done []

/-- ANSWER with RELEASE and a record in the foreground (R171). -/
def State.answerRelease (s : State) (c fg : Call) : State × Reply :=
  if s.noRoom (if fg.state == .dialing then 1 else 2) then s.refuse .busy
  else
    let was := s.calls.table
    (((s.endCall fg).connectCall c).announce was).done []

/-- ANSWER with no record in the foreground (R169). -/
def State.answerPlain (s : State) (c : Call) : State × Reply :=
  if s.noRoom 1 then s.refuse .busy
  else
    let was := s.calls.table
    ((s.connectCall c).announce was).done []

/-- ANSWER's own checks and effect (R169 to R171). -/
def State.answer (s : State) (r : RxRecord) : State × Reply :=
  if 1 < u8 r.payload 3 then s.refuse .value
  else
    s.withHandle r fun c =>
      if s.stepInFlight then s.refuse .busy
      else if c.state != .offered then s.refuse .state
      else
        match s.foreground? with
        | none => s.answerPlain c
        | some fg => if u8 r.payload 3 == 0 then s.answerHold c fg else s.answerRelease c fg

/-- ANSWER (R169). -/
def execAnswer (s : State) : Host.Outcome State Fault Refusal := s.act (State.hostCommand 15 State.answer)

/-- The parcels that HANGUP of a record would produce (R172). -/
def State.hangupPlaces (s : State) (c : Call) : Nat :=
  if c.state == .dialing then 0 else if c.state == .holding && s.calls.deferred.isSome then 2 else 1

/-- HANGUP's own checks and effect (R172). -/
def State.hangup (s : State) (r : RxRecord) : State × Reply :=
  s.withHandle r fun c =>
    if c.state == .clearing then s.refuse .state
    else if s.noRoom (s.hangupPlaces c) then s.refuse .busy
    else
      let was := s.calls.table
      let ended := (s.endCall c).settleStep c
      ((ended.1.announceCleared ended.2).announce was).done [byte c.state.code]

/-- HANGUP (R172). -/
def execHangup (s : State) : Host.Outcome State Fault Refusal := s.act (State.hostCommand 16 State.hangup)

/-- HOLD's own checks and effect (R173). -/
def State.holdCall (s : State) (r : RxRecord) : State × Reply :=
  s.withHandle r fun c =>
    if s.stepInFlight then s.refuse .busy
    else if c.state != .connected || s.anyHeld then s.refuse .state
    else if s.noRoom 1 then s.refuse .busy
    else
      let was := s.calls.table
      (((s.signal' .hold c).enterCall c.handle .holding).announce was).done []

/-- HOLD (R173). -/
def execHold (s : State) : Host.Outcome State Fault Refusal := s.act (State.hostCommand 17 State.holdCall)

/-- RESUME's own checks and effect (R173). -/
def State.resumeCall (s : State) (r : RxRecord) : State × Reply :=
  s.withHandle r fun c =>
    if s.stepInFlight then s.refuse .busy
    else if c.state != .held || s.foreground?.isSome then s.refuse .state
    else if s.noRoom 1 then s.refuse .busy
    else
      let was := s.calls.table
      (((s.signal' .resume c).enterCall c.handle .resuming).announce was).done []

/-- RESUME (R173). -/
def execResume (s : State) : Host.Outcome State Fault Refusal := s.act (State.hostCommand 18 State.resumeCall)

/-- SWAP of the one CONNECTED and the one HELD record (R174). -/
def State.swapCalls (s : State) (c h : Call) : State :=
  let was := s.calls.table
  let s := ((s.signal' .swap c).enterCall c.handle .holding).enterCall h.handle .resuming
  State.announce
    { s with calls :=
      { s.calls with
        pair := some { out := c.out, transaction := c.transaction, holding := some c.handle, resuming := some h.handle } } }
    was

/-- SWAP's own checks and effect (R174). -/
def State.swap (s : State) (_ : RxRecord) : State × Reply :=
  if s.stepInFlight then s.refuse .busy
  else
    match s.calls.table.filter (·.state == .connected), s.calls.table.filter (·.state == .held) with
    | [c], [h] => if s.noRoom 1 then s.refuse .busy else (s.swapCalls c h).done []
    | _, _ => s.refuse .state

/-- SWAP (R174). -/
def execSwap (s : State) : Host.Outcome State Fault Refusal := s.act (State.hostCommand 19 State.swap)

/-! ### CALL-EVENT -/

/-- The record that an OFFER makes (R176). -/
def State.offered (s : State) (tx : Nat) (number : Option (List Nat)) : Call where
  handle := s.nextHandle 15 (s.calls.counter % 15 + 1)
  out := false
  state := .offered
  number := number
  waiting := s.calls.table.any fun c => c.state.foreground || c.state.background
  cause := none
  timer := .off
  transaction := tx

/-- OFFER (R176). -/
def State.takeOffer (s : State) (p : List Byte) : State :=
  let tx := u8 p 3
  if (s.callOf false tx).isSome then s
  else if 4 ≤ s.calls.table.length then (s.uplink .call 60 (signalFields .release false tx (some .busyHere) [])).1
  else
    let c := s.offered tx (if u8 p 5 == 0 then none else some (digitsAt p 5))
    (s.addCall c).raise .callOffered [byte c.handle, byte c.waiting.toNat, byte ((c.number.map List.length).getD 0)]

/-- The records change as `f` says, and CALL-STATE is raised for each whose state changed (R177, R178). -/
def State.changing (s : State) (f : State → State) : State := (f s).announce s.calls.table

/-- CALL-STATE raised for each record that changed state and, its state unchanged, for the record of an abandoned deferred
answer, in order of handle (R178, R183). -/
def State.announceWith (s : State) (was : List Call) (also : Option Nat) : State :=
  s.calls.table.foldl
    (fun t c =>
      match was.find? (·.handle == c.handle) with
      | some d =>
        if d.state != c.state || also == some c.handle then t.raiseCallState c.handle d.state c.state else t
      | none => t)
    s

/-- RELEASED (R178): the record is removed, and CALL-CLEARED is raised for it and for the OFFERED record of a deferred answer that
found the held uplink list full, in order of handle (R183). -/
def State.takeReleased (s : State) (c : Call) (code : Nat) : State :=
  if c.state == .dialing then s
  else
    let cause := if c.state == .clearing then c.cause.getD (.network code) else .network code
    s.changing fun s =>
      let ended := (s.removeCall c).settleStep c
      ended.1.announceCleared ((c, cause) :: ended.2)

/-- HOLD-ACK for a plain hold: HELD, and a deferred answer proceeds (R178). -/
def State.holdAcked (s : State) (c : Call) : State :=
  s.changing fun s =>
    let s := s.enterCall c.handle .held
    if s.calls.deferred.isSome then s.proceedDeferred.1.announceCleared s.proceedDeferred.2 else s

/-- HOLD-REJ for a plain hold: CONNECTED, and a deferred answer is abandoned (R178). -/
def State.holdRejected (s : State) (c : Call) : State :=
  (s.clearDeferred.enterCall c.handle .connected).announceWith s.calls.table s.calls.deferred

/-- The members of the swap pair enter two states, and the pair is cleared (R165, R179). -/
def State.settlePair (s : State) (p : SwapPair) (first second : CallState) : State :=
  let s := match p.holding with
    | some h => s.enterCall h first
    | none => s
  let s := match p.resuming with
    | some h => s.enterCall h second
    | none => s
  { s with calls := { s.calls with pair := none } }

/-- SWAP-ACK and SWAP-REJ are matched through the pair to the direction and transaction that SWAP named (R179; assumption log,
entry 23). -/
def State.takeSwapEvent (s : State) (ack out : Bool) (tx : Nat) : State :=
  match s.calls.pair with
  | none => s
  | some p =>
    if p.out == out && p.transaction == tx then
      s.changing fun s => if ack then s.settlePair p .held .connected else s.settlePair p .connected .held
    else s

/-- An event other than OFFER, SWAP-ACK and SWAP-REJ, for the record it names (R177, R178). -/
def State.takeCallKind (s : State) (kind code : Nat) (c : Call) : State :=
  match kind, c.state with
  | 0, .calling => s.modCall c.handle fun d => { d with timer := s.timerFor .calling }
  | 1, .calling => s.changing fun s => s.enterCall c.handle .ringback
  | 2, .calling => s.changing fun s => s.enterCall c.handle .connected
  | 2, .ringback => s.changing fun s => s.enterCall c.handle .connected
  | 2, .answering => s.changing fun s => s.enterCall c.handle .connected
  | 3, _ => s.takeReleased c code
  | 4, .holding => if s.inPair c.handle then s else s.holdAcked c
  | 5, .holding => if s.inPair c.handle then s else s.holdRejected c
  | 6, .resuming => if s.inPair c.handle then s else s.changing fun s => s.enterCall c.handle .connected
  | 7, .resuming => if s.inPair c.handle then s else s.changing fun s => s.enterCall c.handle .held
  | _, _ => s

/-- A CALL-EVENT is taken in connection (R175 to R179). -/
def State.takeCallEvent (s : State) (r : RxRecord) : State :=
  let p := r.payload
  let kind := u8 p 1
  let out := u8 p 2 == 0
  if !s.connected then s
  else if kind == 10 then s.takeOffer p
  else if kind == 8 || kind == 9 then s.takeSwapEvent (kind == 8) out (u8 p 3)
  else
    match s.callOf out (u8 p 3) with
    | some c => s.takeCallKind kind (u8 p 4) c
    | none => s

/-- CALL_EVENT (R175). -/
def execCallEvent (s : State) : Host.Outcome State Fault Refusal := s.act (State.radioParcel 47 State.takeCallEvent)

/-! ### Timers -/

/-- A HOLDING record's timer expires: it returns to CONNECTED with its swap partner to HELD, or a deferred answer is cleared
(R165). -/
def State.holdExpired (s : State) (c : Call) : State :=
  s.changing fun s =>
    if s.inPair c.handle then
      match s.calls.pair with
      | some p => s.settlePair p .connected .held
      | none => s
    else s.clearDeferred.enterCall c.handle .connected

/-- A RESUMING record's timer expires: it returns to HELD, with its swap partner to CONNECTED (R165). -/
def State.resumeExpired (s : State) (c : Call) : State :=
  s.changing fun s =>
    if s.inPair c.handle then
      match s.calls.pair with
      | some p => s.settlePair p .connected .held
      | none => s
    else s.enterCall c.handle .held

/-- The effect of a record's timer expiry, by its state (R165). -/
def State.callExpired (s : State) (c : Call) : State :=
  match c.state with
  | .dialing => s.clearCall c (if s.svc.state == .connecting then .noAccess else .noService)
  | .calling => s.changing fun s => s.releaseCall c .networkTimeout
  | .answering => s.changing fun s => s.releaseCall c .networkTimeout
  | .holding => s.holdExpired c
  | .resuming => s.resumeExpired c
  | .clearing => s.clearCall c (c.cause.getD .local_)
  | _ => s

/-- CALL_TIMER_EXPIRY (R165). -/
def execCallTimerExpiry (handle : Nat) (s : State) : Host.Outcome State Fault Refusal :=
  s.act fun s =>
    match s.call? handle with
    | some c => s.atTick c.timer.deadline fun s => s.callExpired c
    | none => s

end Sys2Proof.Machine
end

