-- ==== Sys2Proof/Machine/HandoverEvents.lean ====
section
/-! DEFINITION. The commands of the handover unit (chapter 6): HANDOVER-ORDER and SWITCH-RESULT records and the report
interval. -/

namespace Sys2Proof.Machine

/-- REPORT_INTERVAL: at the next report tick, with members in the set (R126). -/
def execReportInterval (s : State) : Host.Outcome State Fault Refusal :=
  s.act fun s => s.atTick s.ho.nextReport fun s => if s.ho.reported.isEmpty then s else s.reportDue

/-- The deadline ticks D of a switch: n_sw brought into 5 to 200 frames (R127). -/
def switchTicks (n : Nat) : Nat := clampNat 5 200 n * 8192 / 25

/-- The switch record of an order (R127). -/
def switchOf (target old : CellKey) (d : Nat) (now : Tick) : Switch where
  phase := .switch
  target := target
  old := old
  ticks := d
  latest := after now (d / 2)
  window := none
  req := .unbuilt
  cause := none
  ended := false

/-- Taking a HANDOVER-ORDER (R127). -/
def State.beginSwitch (s : State) (target old : CellKey) (n : Nat) : State :=
  let s := if (s.cell? target).isSome then s else s.admitListed target 0
  let c := switchOf target old (switchTicks n) s.now
  let s := State.dropReport { s with ho := { s.ho with switch := some c, nextReport := none } }
  s.enterSwitching.callHoldTimers.textHoldTimers.requestSwitch c

/-- A HANDOVER-ORDER is taken in LINKED, for a target other than the serving cell (R127). -/
def State.takeHandoverOrder (s : State) (r : RxRecord) : State :=
  match s.serving? with
  | none => s
  | some c =>
    if s.svc.state == .linked && keyAt r.payload 1 != c.key then
      s.beginSwitch (keyAt r.payload 1) c.key (u8 r.payload 4)
    else s

/-- HANDOVER_ORDER (R127, R128). -/
def execHandoverOrder (s : State) : Host.Outcome State Fault Refusal :=
  s.act (State.radioParcel 50 State.takeHandoverOrder)

/-- A SWITCH-RESULT decides its phase (R131, R132, R134, R135). -/
def State.switchDecided (s : State) (c : Switch) (r : RxRecord) : State :=
  match c.phase, u8 r.payload 4 == 0 with
  | .switch, true => s.switchSucceeded c r.payload r.arrival
  | .switch, false => s.switchFailed c (.rejected (u8 r.payload 5))
  | .return_, true => s.returnSucceeded c r.payload r.arrival
  | .return_, false => s.returnFailed c

/-- A SWITCH-RESULT is taken in SWITCHING or RETURNING, with the phase's request sent and the phase's key (R130). -/
def State.takeSwitchResult (s : State) (r : RxRecord) : State :=
  match s.ho.switch with
  | none => s
  | some c => if s.inSwitch && c.req == .sent && keyAt r.payload 1 == c.key then s.switchDecided c r else s

/-- SWITCH_RESULT (R130 to R135). -/
def execSwitchResult (s : State) : Host.Outcome State Fault Refusal :=
  s.act (State.radioParcel 51 State.takeSwitchResult)

end Sys2Proof.Machine
end

