-- ==== Sys2Proof/Machine/MeasureEvents.lean ====
section
/-! DEFINITION. The commands of the measurement unit (chapter 4): CELL-PARAMS, CELL-LIST, MEASURE-REPORT and SCAN-RESULT
records and its timed events. -/

namespace Sys2Proof.Machine

/-- The key is that of the SERVING record. -/
def State.isServingKey (s : State) (k : CellKey) : Bool := s.serving?.any (·.key == k)

/-- Two sets of parameters differ in W, N_med or N_high (R114). -/
def Params.countDiffers (p q : Params) : Bool := p.span != q.span || p.nMed != q.nMed || p.nHigh != q.nHigh

/-- A CELL-PARAMS brings its values into force, and one that changes W, N_med or N_high has c and the threshold reckoned anew
(R77, R114). -/
def State.applyCellParams (s : State) (p : Params) : State :=
  if p.countDiffers s.meas.params then (s.setParams p).calmCheck else s.setParams p

/-- A CELL-PARAMS for the serving cell replaces the parameters in force (R77). -/
def State.takeCellParams (s : State) (r : RxRecord) : State :=
  if s.isServingKey (keyAt r.payload 1) && s.svc.state != .shelved then s.applyCellParams (paramsOf r.payload) else s

/-- CELL_PARAMS (R77, R78). -/
def execCellParams (s : State) : Host.Outcome State Fault Refusal := s.act (State.radioParcel 40 State.takeCellParams)

/-- The entries of a CELL-LIST: at most 12, their offsets brought into range (R80). -/
def listEntries (p : List Byte) : List (CellKey × Int) :=
  (List.range (min (u8 p 4) 12)).map fun j => (keyAt p (5 + 4 * j), clampInt (-24) 24 (i8 p (8 + 4 * j)))

/-- Step 1 of R80 on a record whose key is not named. -/
def Cell.unlisted (c : Cell) : Cell :=
  match c.role with
  | .listed => { c with role := .found, offset := 0 }
  | .barred => { c with before := some .found, offset := 0 }
  | _ => c

/-- Step 2 of R80 on a record that is named. -/
def Cell.relisted (c : Cell) (offset : Int) : Cell :=
  match c.role with
  | .serving => { c with offset := offset }
  | .barred => { c with before := some .listed, offset := offset }
  | _ => { c with role := .listed, offset := offset }

/-- A key named again in step 3, already in the table by then, takes the later offset (R80). -/
def State.listEntry (s : State) (e : CellKey × Int) : State :=
  if (s.cell? e.1).isSome then s.modCell e.1 fun c => c.relisted e.2 else s.admitListed e.1 e.2

/-- A CELL-LIST for the serving cell (R80). No rule states what the service controller does when told, after step 3, that a neighbour
list was applied: it does nothing (DESIGN CHOICE; assumption log, entry 40). -/
def State.takeCellList (s : State) (r : RxRecord) : State :=
  if s.isServingKey (keyAt r.payload 1) && s.svc.state != .shelved then
    let es := listEntries r.payload
    let s : State :=
      { s with meas := { s.meas with
        cells := s.meas.cells.map fun c => if es.any (·.1 == c.key) then c else c.unlisted } }
    let new := es.filter fun e => (s.cell? e.1).isNone
    let s := (es.filter fun e => (s.cell? e.1).isSome).foldl (fun s e => s.modCell e.1 fun c => c.relisted e.2) s
    new.foldl State.listEntry s
  else s

/-- CELL_LIST (R80). -/
def execCellList (s : State) : Host.Outcome State Fault Refusal := s.act (State.radioParcel 41 State.takeCellList)

/-- The samples of a report are used in order (R86). -/
def State.useSamples (s : State) (k : Nat) (arrival : Tick) (ps : List Sample) : State :=
  ps.foldl (fun s p => s.useSample k arrival p) s

/-- The effective k of samples in rounds and scans (R89). -/
def State.kIdle (s : State) : Nat := effectiveK s.meas.params.kIdle s.svc.mobility

/-- The effective k of connected reports (R89). -/
def State.kConn (s : State) : Nat := effectiveK s.meas.params.kConn s.svc.mobility

/-- A connected report: its samples are used in connection, and in LINKED the handover unit evaluates (R95, R122). -/
def State.connectedReport (s : State) (r : RxRecord) : State :=
  if s.connected then
    let s := s.useSamples s.kConn r.arrival (samplesAt r.payload 4 5 (u8 r.payload 3))
    if s.svc.state == .linked then s.connectedEvaluation else s
  else s

/-- A report for a round still open: its samples are used, its keys reported, and a last report may complete the round
(R92, R93). -/
def State.openRoundReport (s : State) (q : Round) (r : RxRecord) : State :=
  let ps := samplesAt r.payload 4 5 (u8 r.payload 3)
  let last := (u8 r.payload 2).testBit 0
  let s := (s.useSamples s.kIdle r.arrival ps).modRound q.id fun q =>
    { q with reported := q.reported ++ ps.map (·.key), lastTaken := last }
  match s.round? q.id with
  | some q => if last && q.outcome == some .fullTime then s.endRound q none else s
  | none => s

/-- A MEASURE-REPORT is taken (R92, R95). -/
def State.takeMeasureReport (s : State) (r : RxRecord) : State :=
  if u8 r.payload 1 == 0 then s.connectedReport r
  else
    match s.round? (u8 r.payload 1) with
    | some q => if q.lastTaken then s else s.openRoundReport q r
    | none => s

/-- MEASURE_REPORT (R92, R95). -/
def execMeasureReport (s : State) : Host.Outcome State Fault Refusal :=
  s.act (State.radioParcel 42 State.takeMeasureReport)

/-- ROUND_SILENCE_DEADLINE: a round without its last report is skipped SILENT (R93). -/
def execRoundSilenceDeadline (id : Nat) (s : State) : Host.Outcome State Fault Refusal :=
  s.act fun s =>
    match s.round? id with
    | some q => s.atTick q.silence fun s => s.endRound q (some .silent)
    | none => s

/-- The entries of a SCAN-RESULT: a sample and whether the barred byte is set (R96, section 10.5). -/
def scanEntries (p : List Byte) : List (Sample × Bool) :=
  (List.range (u8 p 2)).map fun j =>
    ({ key := keyAt p (3 + 6 * j), level := levelAt p (6 + 6 * j), quality := i8 p (7 + 6 * j) }, u8 p (8 + 6 * j) != 0)

/-- One entry of a SCAN-RESULT: its sample, then its barring (R96). -/
def State.scanEntry (s : State) (k : Nat) (arrival : Tick) (e : Sample × Bool) : State :=
  let s := s.useSample k arrival e.1
  if e.2 then s.bar e.1.key else s

/-- Keys without repeats, the first of each kept. -/
def firstKeys : List CellKey → List CellKey → List CellKey
  | _, [] => []
  | seen, k :: ks => if seen.contains k then firstKeys seen ks else k :: firstKeys (k :: seen) ks

/-- The service controller takes a SCAN-RESULT that names its SCAN window, while that window is ACTIVE or the result is
awaited (R103, R104). A SCAN-ORDER still queued or held stays in the send path, until it is sent or a SHELVE removes
it (R120; assumption log, entry 18). -/
def State.scanJudged (s : State) (id : Nat) (keys : List CellKey) : State :=
  match s.svc.scan with
  | none => s
  | some c =>
    if c.window == some id && ((s.windowOf c.window).any (·.state == .active) || c.deadline.isSome) then
      let s := s.releaseOpt .service c.window
      let s := s.modScan fun c =>
        { c with window := none, deadline := none, candidates := firstKeys [] (keys.filter fun k => (s.cell? k).isSome) }
      s.judgeScan true
    else s

/-- A SCAN-RESULT is used in SCANNING alone (R96). -/
def State.takeScanResult (s : State) (r : RxRecord) : State :=
  if s.svc.state == .scanning then
    let es := scanEntries r.payload
    let k := s.kIdle
    let s := es.foldl (fun s e => s.scanEntry k r.arrival e) s
    s.scanJudged (u8 r.payload 1) (es.map (·.1.key))
  else s

/-- SCAN_RESULT (R96, R103, R104). -/
def execScanResult (s : State) : Host.Outcome State Fault Refusal := s.act (State.radioParcel 43 State.takeScanResult)

/-- PENALTY_EXPIRY: a record's penalty ends (R84). -/
def execPenaltyExpiry (key : CellKey) (s : State) : Host.Outcome State Fault Refusal :=
  s.act fun s =>
    s.atTick ((s.cell? key).bind (·.penaltyUntil)) fun s =>
      s.modCell key fun c => { c with penalty := 0, penaltyUntil := none }

/-- BARRING_EXPIRY: a record's barring ends (R85). -/
def execBarringExpiry (key : CellKey) (s : State) : Host.Outcome State Fault Refusal :=
  s.act fun s => s.atTick ((s.cell? key).bind (·.barredUntil)) fun s => s.modCell key Cell.unbar

end Sys2Proof.Machine
end

