-- ==== Sys2Proof/Machine/PagingEvents.lean ====
section
/-! DEFINITION. The commands of the paging and power unit (chapter 7): PAGE-RESULT records, the frame end and the deadlines of
watches, and the events of the power states. -/

namespace Sys2Proof.Machine

/-! ### The schedule -/

/-- The frame end of the oldest cycle not yet ended: the next cycle is planned, unless a re-plan has made it (R143, R145). -/
def State.frameEnd (s : State) (c : Cycle) : State :=
  let last := s.pag.cycles.getLast? == some c
  let s := (s.modCycle (· == c) fun c => { c with ended := true }).dropOver
  if s.pag.running && last then s.planCycle (laterOf (after s.now 99) c.stop) else s

/-- FRAME_END (R143). -/
def execFrameEnd (s : State) : Host.Outcome State Fault Refusal :=
  s.act fun s =>
    match s.pag.cycles.find? (fun c => !c.ended) with
    | some c => (s.reach c.stop).frameEnd c
    | none => s

/-- The paged entries of a PAGE-RESULT: identity and reason code (section 10.5). -/
def pagedEntries (p : List Byte) : List (Nat × Nat) :=
  (List.range (u8 p 8)).map fun j => (u32 p (9 + 5 * j), u8 p (13 + 5 * j))

/-- The reason with which matching entries raise the PAGE need: CALL before TEXT, other codes passed over (R148). -/
def pageReason (identity : Nat) (es : List (Nat × Nat)) : Option PageReason :=
  if es.any fun e => e.1 == identity && e.2 == 0 then some .call
  else if es.any fun e => e.1 == identity && e.2 == 1 then some .text
  else none

/-- The entries of a PAGE-RESULT are matched with the own identity (R148). -/
def State.matchPages (s : State) (es : List (Nat × Nat)) : State :=
  match s.cmd.setup with
  | none => s
  | some c =>
    match pageReason c.identity.toNat es with
    | some r => s.raiseNeed (.page r)
    | none => s

/-- The INFO request of a PAGE-RESULT with the info-change flag (R147, R149). -/
def State.infoChange (s : State) (p : List Byte) : State :=
  if (u8 p 7).testBit 0 && s.svc.state == .camped && s.pag.info.isNone then s.requestInfo else s

/-- A watch is ANSWERED: the missed-watch count and its reason are cleared (R146, R147). -/
def State.watchAnswered (s : State) (id : Nat) : State :=
  let s := (s.modCycle (·.watch == some id) fun c => { c with status := .answered, deadline := none }).dropOver
  { s with pag := { s.pag with missed := 0, missReason := none } }

/-- A PAGE-RESULT for a watch ACTIVE or AWAITING of a running schedule (R147). -/
def State.takePageResult (s : State) (r : RxRecord) : State :=
  let id := u8 r.payload 1
  let waits := s.pag.cycles.any fun c => c.watch == some id && (c.status == .active || c.status == .awaiting)
  if s.pag.running && waits then
    ((((s.setAnchor r.payload 2 r.arrival).watchAnswered id).matchPages (pagedEntries r.payload)).infoChange r.payload)
  else s

/-- PAGE_RESULT (R147 to R149). -/
def execPageResult (s : State) : Host.Outcome State Fault Refusal := s.act (State.radioParcel 44 State.takePageResult)

/-- WATCH_RESULT_DEADLINE: an AWAITING watch is missed SILENT (R146, R150). -/
def execWatchResultDeadline (id : Nat) (s : State) : Host.Outcome State Fault Refusal :=
  s.act fun s =>
    match s.pag.cycles.find? fun c => c.watch == some id && c.status == .awaiting with
    | some c => s.atTick c.deadline fun s => s.watchMissed id .silent
    | none => s

/-- INFO_WAIT_DEADLINE: the INFO record is dropped (R149). -/
def execInfoWaitDeadline (s : State) : Host.Outcome State Fault Refusal :=
  s.act fun s => s.atTick (s.pag.info.bind (·.deadline)) fun s => { s with pag := { s.pag with info := none } }

/-! ### Power -/

/-- The queues and the pending notice list are empty, and no unit holds an item (R153, R160). -/
def State.queuesEmpty (s : State) : Bool :=
  s.line.rxq.isEmpty && s.line.txq.isEmpty && s.line.held.isEmpty && s.cmd.notices.isEmpty

/-- The line interface has joined and the line can be idle within this tick: the part neither sends nor receives a parcel, and the
bit times of its mark, delimiter and gap can have passed. That no other station's parcel is under way either is for whoever
brings the entry, or for the free value of a step with an empty queue (R7, R15, R18, R153, R160; assumption log, entry 10). -/
def State.lineIdle (s : State) : Bool :=
  s.line.joined && s.line.phase.free && s.line.wait.passed s.line.wait.bits s.line.rate s.now 15624

/-- No call record exists, and no outbound text is QUEUED or SENDING (R153, R158, R160). -/
def State.noTraffic (s : State) : Bool := s.calls.table.isEmpty && !s.text.outLive

/-- A transceiver result is awaited (R153, condition 7). -/
def State.resultAwaited (s : State) : Bool :=
  s.pag.cycles.any (·.status == .awaiting) || s.meas.rounds.any (·.silence.isSome)
    || (s.svc.scan.bind (·.deadline)).isSome || (s.pag.info.bind (·.deadline)).isSome

/-- Every due tick is more than L + 2^e ticks after now (R153, condition 8). -/
def State.dueTicksFar (s : State) : Bool :=
  (s.dueStarts ++ s.dueTimers).all fun t => later t (after s.now (s.wakeLead + s.settleTicks))

/-- Every condition for entering DOZE holds (R153). -/
def State.mayDoze (s : State) : Bool :=
  s.pag.power == .awake && s.lineIdle && s.line.state != .detached
    && (s.svc.state == .scanning || s.svc.state == .camped) && s.noTraffic && s.queuesEmpty
    && s.text.pendingRead.isNone && !s.pag.wakeHold && s.cmd.linger.isNone && s.pag.edgeHold.isNone
    && !s.air.plan.any (·.state == .active) && !s.resultAwaited && s.dueTicksFar

/-- DOZE_ENTRY (R153, R154). -/
def execDozeEntry (s : State) : Host.Outcome State Fault Refusal :=
  s.act fun s => if s.mayDoze then { s with pag := { s.pag with power := .doze, wake := s.wakeTick } } else s

/-- WAKE_TICK: in DOZE, SETTLING begins (R154). -/
def execWakeTick (s : State) : Host.Outcome State Fault Refusal :=
  s.act fun s => if s.pag.power == .doze then s.atTick s.pag.wake fun s => s.beginSettling false else s

/-- LINE_EDGE_WAKE: a falling edge on LINE in DOZE or SHELVED begins SETTLING (R156, R160). -/
def execLineEdgeWake (tick : Tick) (s : State) : Host.Outcome State Fault Refusal :=
  s.act fun s =>
    if s.pag.power == .doze || s.pag.power == .shelved then (s.reach tick).beginSettling true else s

/-- EDGE_HOLD_EXPIRY: the edge hold deadline is cleared (R156). -/
def execEdgeHoldExpiry (s : State) : Host.Outcome State Fault Refusal :=
  s.act fun s => s.atTick s.pag.edgeHold fun s => { s with pag := { s.pag with edgeHold := none } }

/-- Every condition for the power state SHELVED holds (R160). -/
def State.mayShelve (s : State) : Bool :=
  s.pag.power == .awake && s.svc.state == .shelved && s.noTraffic && s.queuesEmpty && s.pag.edgeHold.isNone && s.lineIdle

/-- SHELVED_ENTRY (R160). -/
def execShelvedEntry (s : State) : Host.Outcome State Fault Refusal :=
  s.act fun s => if s.mayShelve then { s with pag := { s.pag with power := .shelved, wake := none } } else s

/-- LINGER_EXPIRY: the host linger deadline is cleared (R43). -/
def execLingerExpiry (s : State) : Host.Outcome State Fault Refusal :=
  s.act fun s => s.atTick s.cmd.linger fun s => { s with cmd := { s.cmd with linger := none } }

end Sys2Proof.Machine
end

