-- ==== Sys2Proof/Machine/ServiceEvents.lean ====
section
/-! DEFINITION. The commands of the service controller (chapter 5): CAMP-RESULT, LINK-RESULT and LINK-DROPPED records and its
timed events. -/

namespace Sys2Proof.Machine

/-! ### Scanning and camping -/

/-- SCAN_RETRY: the SCAN window is requested again from now (R102). -/
def execScanRetry (s : State) : Host.Outcome State Fault Refusal :=
  s.act fun s =>
    s.atTick (s.svc.scan.bind (·.retry)) fun s => (s.modScan fun c => { c with retry := none }).requestScan s.now

/-- SCAN_RESULT_DEADLINE: the scan is fruitless (R103, R104). -/
def execScanResultDeadline (s : State) : Host.Outcome State Fault Refusal :=
  s.act fun s => s.atTick (s.svc.scan.bind (·.deadline)) State.fruitless

/-- A CAMP-RESULT success (R107); the anchor field is at byte 6. -/
def State.campSucceeded (s : State) (c : Camp) (p : List Byte) (arrival : Tick) : State :=
  let old := s.serving?.map (·.key)
  let s := (s.releaseOpt .service c.window).makeServing c.target
  let s := match c.barredOrigin, old with
    | true, some k => s.bar k
    | _, _ => s
  let s := s.setAnchor p 6 arrival
  let s : State :=
    { s with svc :=
      { s.svc with campTick := some arrival, unsuitable := 0, backoff := 65536, camp := none } }
  let s := (s.enterRing old c.target arrival).moveService .camped
  (s.raise .cellChanged (keyBytesOr old ++ keyBytes c.target ++ [byte c.purpose.code])).reportService

/-- A CAMP-RESULT is taken in CAMPING, with the CAMP-REQ sent and the target's key (R107, R108). -/
def State.takeCampResult (s : State) (r : RxRecord) : State :=
  match s.svc.camp with
  | none => s
  | some c =>
    if s.svc.state == .camping && c.req == .sent && keyAt r.payload 1 == c.target then
      if u8 r.payload 4 == 0 then s.campSucceeded c r.payload r.arrival else s.campFailed c true
    else s

/-- CAMP_RESULT (R107, R108). -/
def execCampResult (s : State) : Host.Outcome State Fault Refusal := s.act (State.radioParcel 45 State.takeCampResult)

/-- CAMP_RESULT_DEADLINE: the attempt fails (R108). -/
def execCampResultDeadline (s : State) : Host.Outcome State Fault Refusal :=
  s.act fun s =>
    match s.svc.camp with
    | none => s
    | some c => s.atTick c.deadline fun s => s.campFailed c true

/-! ### Mobility -/

/-- The counted ring entry made at this tick leaves the count (R113). -/
def State.countExpiry (s : State) (entry : Tick) : Option Tick :=
  (s.svc.ring.find? fun e => e.counted && e.tick == entry).map fun e => e.leaves s.meas.params.span

/-- MOBILITY_COUNT_EXPIRY: an entry leaves the count, and calm may begin (R113, R114). What leaves makes c no higher, so it clears no
calm-since. -/
def execMobilityCountExpiry (entry : Tick) (s : State) : Host.Outcome State Fault Refusal :=
  s.act fun s => s.atTick (s.countExpiry entry) State.calmBegin

/-- The tick of the mobility fall: calm-since + W·16384 (R114). -/
def State.fallTick (s : State) : Option Tick := s.svc.calmSince.map fun t => after t (s.meas.params.span * 16384)

/-- MOBILITY_FALL: the state falls to what the count indicates (R114). -/
def execMobilityFall (s : State) : Host.Outcome State Fault Refusal :=
  s.act fun s =>
    s.atTick s.fallTick fun s => State.setMobility { s with svc := { s.svc with calmSince := none } } s.indicated

/-! ### The radio connection -/

/-- A LINK-RESULT is taken in CONNECTING with the attempt's LINK-REQ sent (R115, R116). -/
def State.takeLinkResult (s : State) (r : RxRecord) : State :=
  if s.svc.state == .connecting && s.svc.conn.req == .sent then
    if u8 r.payload 1 == 0 then s.linkSucceeded else s.linkFailed none
  else s

/-- LINK_RESULT (R115, R116). -/
def execLinkResult (s : State) : Host.Outcome State Fault Refusal := s.act (State.radioParcel 46 State.takeLinkResult)

/-- LINK_RESULT_DEADLINE: the attempt fails (R116). -/
def execLinkResultDeadline (s : State) : Host.Outcome State Fault Refusal :=
  s.act fun s => s.atTick s.svc.conn.deadline fun s => s.linkFailed none

/-- A LINK-DROPPED by service state (R116, R118, R136). -/
def State.takeLinkDropped (s : State) (_ : RxRecord) : State :=
  match s.svc.state with
  | .linked => s.connectionLost
  | .switching => s.abandonSwitch.connectionLost.resumeTimers
  | .returning => s.abandonSwitch.connectionLost.resumeTimers
  | .connecting => s.linkFailed none
  | _ => s

/-- LINK_DROPPED (R116, R118, R136). -/
def execLinkDropped (s : State) : Host.Outcome State Fault Refusal := s.act (State.radioParcel 53 State.takeLinkDropped)

/-- The ACTIVE chunk with this id. -/
def State.activeChunk (s : State) (id : Nat) : Option Window :=
  s.air.plan.find? fun w => w.id == id && w.isTraffic && w.state == .active

/-- CHUNK_RENEWAL, at an ACTIVE chunk's end − 8192 (R117). -/
def execChunkRenewal (id : Nat) (s : State) : Host.Outcome State Fault Refusal :=
  s.act fun s =>
    match s.activeChunk id with
    | some w => (s.reach (before w.stop 8192)).tryChunk
    | none => s

/-- CHUNK_RETRY (R117). -/
def execChunkRetry (s : State) : Host.Outcome State Fault Refusal :=
  s.act fun s => s.atTick s.svc.traffic.retry fun s => (s.modTraffic fun t => { t with retry := none }).tryChunk

/-- The tick at which the running traffic-absence measure reaches `n`, in LINKED (R118). -/
def State.absenceTick (s : State) (n : Nat) : Option Tick :=
  if s.svc.state == .linked then s.svc.traffic.since.map fun t => after t (n - s.svc.traffic.accrued) else none

/-- The gap check: an earliest chunk that is not ACTIVE is released with every later one, and a chunk requested from now
(R118). -/
def State.gapCheck (s : State) : State :=
  let s := s.modTraffic fun t => { t with gapFlag := true }
  match s.air.plan.find? (·.isTraffic) with
  | some w => if w.state == .active then s else s.releaseTraffic.requestChunk s.now
  | none => s

/-- GAP_CHECK, when the measure reaches 16384 with the flag clear (R118). -/
def execGapCheck (s : State) : Host.Outcome State Fault Refusal :=
  s.act fun s => if s.svc.traffic.gapFlag then s else s.atTick (s.absenceTick 16384) State.gapCheck

/-- CONNECTION_LOSS, when the measure reaches 32768 (R118). -/
def execConnectionLoss (s : State) : Host.Outcome State Fault Refusal :=
  s.act fun s => s.atTick (s.absenceTick 32768) State.connectionLost

/-- IDLE_CLOSE: at the close tick in LINKED the connection is closed; in SWITCHING or RETURNING the close waits (R119). -/
def execIdleClose (s : State) : Host.Outcome State Fault Refusal :=
  s.act fun s => s.atTick s.svc.traffic.close fun s => if s.svc.state == .linked then s.idleClose else s

end Sys2Proof.Machine
end

