-- ==== Sys2Proof/Machine/Due.lean ====
section
/-! DEFINITION. What a period of SLOWCLK brings when no command is waiting: the timed events whose ticks the counter has
reached, the handling of the oldest record, and the entries into DOZE and SHELVED (R30, R47, R151; assumption log, entry 5). -/

namespace Sys2Proof.Machine

/-- A command that is due when its tick has been reached. -/
def State.dueAt (s : State) (t : Option Tick) (i : Instr) : List Instr :=
  match t with
  | some t => if reached s.now t then [i] else []
  | none => []

/-- The commands due of a list of things, each with its tick. -/
def State.dueEach {α : Type} (s : State) (l : List α) (f : α → Option Tick × Instr) : List Instr :=
  l.flatMap fun a => s.dueAt (f a).1 (f a).2

/-- The next event of an own window (R55, R63 to R66). -/
def Window.nextEvent (w : Window) : Option Tick × Instr :=
  match w.state with
  | .planned => (some (before w.start 32768), .claimOffer w.id)
  | .offered => (some (before w.start 66), .standDeadline w.id)
  | .standing => (some w.start, .windowStart w.id)
  | .active => (some w.stop, .windowEnd w.id)

/-- The removal of a queued CLAIM at its window's start (R26). -/
def TxEntry.startRemoval (e : TxEntry) : Option Tick × Instr :=
  match e.span with
  | some (.claim start _) => (if e.removal then none else some start, .claimStartRemoval (u8 e.payload 1))
  | _ => (none, .claimStartRemoval (u8 e.payload 1))

/-- The scheduler's due commands. -/
def State.airDue (s : State) : List Instr :=
  s.dueEach s.air.peers (fun c => (some c.stop, .claimExpiry c.station c.id))
    ++ s.dueEach (s.air.plan.filter (·.state == .active)) Window.nextEvent
    ++ s.dueEach (s.air.plan.filter (·.state != .active)) Window.nextEvent
    ++ s.dueEach s.line.txq TxEntry.startRemoval
    ++ s.dueAt (s.air.anchor.map fun a => after a.tick (2 ^ 24)) .anchorRebase

/-- The measurement unit's due commands. -/
def State.measureDue (s : State) : List Instr :=
  s.dueEach s.meas.rounds (fun r => (r.silence, .roundSilenceDeadline r.id))
    ++ s.dueEach s.meas.cells (fun c => (c.penaltyUntil, .penaltyExpiry c.key))
    ++ s.dueEach s.meas.cells (fun c => (c.barredUntil, .barringExpiry c.key))

/-- The ring entries that have left the count, while calm-since is still to follow (R113, R114): also those that left it at a return of
the parameters to their defaults (assumption log, entry 21). -/
def State.countDue (s : State) : List Instr :=
  if s.belowThreshold && s.svc.calmSince.isNone then
    (s.svc.ring.filter fun e => e.counted && reached s.now (e.leaves s.meas.params.span)).map fun e =>
      .mobilityCountExpiry e.tick
  else []

/-- The ACTIVE chunk whose renewal tick has been reached and which no chunk and no retry follows yet (R117). -/
def State.renewalDue (s : State) : List Instr :=
  match s.latestChunk with
  | some w =>
    if s.svc.state == .linked && w.state == .active && s.svc.traffic.retry.isNone then
      s.dueAt (some (before w.stop 8192)) (.chunkRenewal w.id)
    else []
  | none => []

/-- The service controller's due commands: the loss before the close, the count before the fall (R114, R119). -/
def State.serviceDue (s : State) : List Instr :=
  s.dueAt (s.svc.scan.bind (·.retry)) .scanRetry
    ++ s.dueAt (s.svc.scan.bind (·.deadline)) .scanResultDeadline
    ++ s.dueAt (s.svc.camp.bind (·.deadline)) .campResultDeadline
    ++ s.dueAt s.svc.conn.deadline .linkResultDeadline
    ++ s.renewalDue
    ++ s.dueAt s.svc.traffic.retry .chunkRetry
    ++ (if s.svc.traffic.gapFlag then [] else s.dueAt (s.absenceTick 16384) .gapCheck)
    ++ s.dueAt (s.absenceTick 32768) .connectionLoss
    ++ (if s.svc.state == .linked then s.dueAt s.svc.traffic.close .idleClose else [])
    ++ s.countDue
    ++ s.dueAt s.fallTick .mobilityFall

/-- The paging and power unit's and the handover unit's due commands, and the host linger. -/
def State.pagingDue (s : State) : List Instr :=
  s.dueAt s.ho.nextReport .reportInterval
    ++ s.dueAt ((s.pag.cycles.find? fun c => !c.ended).map (·.stop)) .frameEnd
    ++ s.dueEach (s.pag.cycles.filter (·.status == .awaiting))
      (fun c => (c.deadline, .watchResultDeadline (c.watch.getD 0)))
    ++ s.dueAt (s.pag.info.bind (·.deadline)) .infoWaitDeadline
    ++ s.dueAt s.pag.settleEnd .settleEnd
    ++ s.dueAt s.pag.wake .wakeTick
    ++ s.dueAt s.pag.edgeHold .edgeHoldExpiry
    ++ s.dueAt s.cmd.linger .lingerExpiry

/-- The call unit's and the text unit's due commands. -/
def State.jobDue (s : State) : List Instr :=
  s.dueEach s.calls.table (fun c => (c.timer.deadline, .callTimerExpiry c.handle))
    ++ s.dueEach s.text.assemblies (fun a => (some (after a.first 3932160), .assemblyTimeout))
    ++ s.dueAt s.text.retryTick .storeRetryTick
    ++ s.dueAt s.text.ackWait.deadline .availAckWaitExpiry
    ++ s.dueAt (s.sending?.bind fun o => o.wait.deadline) .sendAckWaitExpiry

/-- The command that handles a record of a topic (R30, R45). -/
def topicCommand (topic : Nat) : Option Instr :=
  match topic with
  | 1 => some .claim
  | 2 => some .withdraw
  | 8 => some .setup
  | 9 => some .status
  | 10 => some .restart
  | 11 => some .shelve
  | 12 => some .unshelve
  | 13 => some .wakeHold
  | 14 => some .dial
  | 15 => some .answer
  | 16 => some .hangup
  | 17 => some .hold
  | 18 => some .resume
  | 19 => some .swap
  | 20 => some .sendBegin
  | 21 => some .sendPiece
  | 22 => some .sendGo
  | 23 => some .sendCancel
  | 24 => some .readText
  | 25 => some .readMore
  | 26 => some .releaseText
  | 27 => some .rewind
  | 28 => some .queryCalls
  | 29 => some .queryCells
  | 30 => some .queryPlan
  | 40 => some .cellParams
  | 41 => some .cellList
  | 42 => some .measureReport
  | 43 => some .scanResult
  | 44 => some .pageResult
  | 45 => some .campResult
  | 46 => some .linkResult
  | 47 => some .callEvent
  | 48 => some .textSegment
  | 49 => some .textAck
  | 50 => some .handoverOrder
  | 51 => some .switchResult
  | 52 => some .availAck
  | 53 => some .linkDropped
  | _ => none

/-- The handling of the oldest record (R30). -/
def State.recordDue (s : State) : List Instr :=
  match s.line.rxq with
  | r :: _ => (topicCommand r.topic).toList
  | [] => []

/-- The entries into DOZE and SHELVED whose conditions hold (R153, R160), while the line is idle: of what other stations do on it
no row tells, so a free value says whether it is (R7; assumption log, entry 10). -/
def State.powerDue (s : State) (quiet : Bool) : List Instr :=
  if quiet then (if s.mayDoze then [.dozeEntry] else []) ++ (if s.mayShelve then [.shelvedEntry] else []) else []

/-- Every command that is due. -/
def State.due (s : State) (quiet : Bool) : List Instr :=
  s.airDue ++ s.measureDue ++ s.serviceDue ++ s.pagingDue ++ s.jobDue ++ s.recordDue ++ s.powerDue quiet

/-- One period of SLOWCLK with no command waiting: the counter rises by 1, and the commands then due are put in the queue
(R46, R47; assumption log, entry 5). -/
def State.tick (s : State) : State :=
  if s.inReset then s
  else
    let quiet := Config.lineQuiet s.freeCount
    let now := s.air.now + 1
    let s : State :=
      { s with
        air := { s.air with now := now }
        line := { s.line with wait := s.line.wait.spend s.line.rate now }
        freeCount := s.freeCount + 1 }
    { s with pending := s.due quiet }

end Sys2Proof.Machine
end

