-- ==== Sys2Proof/Machine/TextEvents.lean ====
section
/-! DEFINITION. The commands of the text unit (chapter 9): the host's text commands, TEXT-SEGMENT, TEXT-ACK and AVAIL-ACK
records, and its timed events. -/

namespace Sys2Proof.Machine

/-! ### Reading -/

/-- A READ-TEXT that is pending is cancelled, with its ANSWER of outcome NO-TEXT to the station that sent it (R40, R198, section
10.4; assumption log, entry 33). -/
def State.cancelRead (s : State) : State × List HostParcel :=
  match s.text.pendingRead with
  | none => (s, [])
  | some q =>
    ({ s with text := { s.text with pendingRead := none } },
      [⟨4, 32, [byte q.source, byte q.topic, byte q.reference, byte Answered.noText.code]⟩])

/-- What every accepted text command does before its own effect: a pending read is cancelled and, unless the command is
READ-TEXT or READ-MORE, the read cursor is cleared (R198). -/
def State.acceptText (s : State) (keepsCursor : Bool) (f : State → State × Reply) : State × Reply :=
  let (s, first) := s.cancelRead
  let s : State := if keepsCursor then s else { s with text := { s.text with readCursor := none } }
  let (s, y) := f s
  (s, { y with first := first })

/-- READ-TEXT of a record by number (R196). -/
def State.readNumber (s : State) (r : RxRecord) (t : StoredText) : State × Reply :=
  s.acceptText true fun s =>
    let (s, p) := s.readRecord r.ref t (u16 r.payload 4)
    (s, Reply.doneWith (bytes2 t.number) [p])

/-- READ-TEXT NEXT with no pending read (R196, R197). -/
def State.readTextNext (s : State) (r : RxRecord) : State × Reply :=
  match s.text.unread.bind s.text.find? with
  | some t =>
    s.acceptText true fun s =>
      let (s, p) := s.readNext r.ref t (u16 r.payload 4)
      (s, Reply.doneWith (bytes2 t.number) [p])
  | none =>
    State.done
      { s with text :=
        { s.text with
          readCursor := none
          pendingRead := some { source := r.source, topic := r.topic, reference := r.ref, offset := u16 r.payload 4 } } }
      [0, 0]

/-- READ-TEXT's own checks and effect (R196, R197). -/
def State.readText (s : State) (r : RxRecord) : State × Reply :=
  if u16 r.payload 2 == 0 then
    if s.text.pendingRead.isSome then s.refuse .busy else s.readTextNext r
  else
    match s.text.find? (u16 r.payload 2) with
    | none => s.refuse .noText
    | some t => s.readNumber r t

/-- READ_TEXT (R196). -/
def execReadText (s : State) : Host.Outcome State Fault Refusal := s.act (State.hostCommand 24 State.readText)

/-- READ-MORE's own checks and effect (R198). -/
def State.readMore (s : State) (r : RxRecord) : State × Reply :=
  match s.text.readCursor with
  | none => s.refuse .state
  | some (n, off) =>
    match s.text.find? n with
    | none => s.refuse .state
    | some t =>
      s.acceptText true fun s =>
        ({ s with text := { s.text with readCursor := some (n, off + (textBytes t off).length) } },
          Reply.doneWith (bytes2 n) [⟨7, 39, textData s.host r.ref t off⟩])

/-- READ_MORE (R198). -/
def execReadMore (s : State) : Host.Outcome State Fault Refusal := s.act (State.hostCommand 25 State.readMore)

/-- The store without its oldest record (R199). -/
def Text.released (x : Text) (t : StoredText) : Text :=
  { x with
    unread := if x.unread == some t.number then nextNewer t.number x.store else x.unread
    store := x.store.tail }

/-- The oldest record leaves the store (R199). -/
def State.releaseOldest (s : State) (t : StoredText) : State :=
  State.testAvail (State.rearmHalf { s with text := s.text.released t })

/-- RELEASE-TEXT's own checks and effect (R199). A switch does not affect it (R139): a STORE-AVAILABLE that it makes due and the
full held uplink list drops leaves the ack wait running (R195; assumption log, entry 37). -/
def State.releaseText (s : State) (r : RxRecord) : State × Reply :=
  match s.text.find? (u16 r.payload 2), s.text.store with
  | some _, t :: _ =>
    if t.number != u16 r.payload 2 then s.refuse .state
    else s.acceptText false fun s => (s.releaseOldest t).done []
  | _, _ => s.refuse .noText

/-- RELEASE_TEXT (R199). -/
def execReleaseText (s : State) : Host.Outcome State Fault Refusal := s.act (State.hostCommand 26 State.releaseText)

/-- REWIND's effect (R199). -/
def State.rewind (s : State) (_ : RxRecord) : State × Reply :=
  s.acceptText false fun s =>
    State.done { s with text := { s.text with unread := s.text.store.head?.map (·.number) } } []

/-- REWIND (R199). -/
def execRewind (s : State) : Host.Outcome State Fault Refusal := s.act (State.hostCommand 27 State.rewind)

/-! ### Composing -/

/-- The COMPOSING entry (R200). -/
def State.composing? (s : State) : Option OutText := s.text.outbound.find? (·.state == .composing)

/-- The COMPOSING entry is changed in place. -/
def State.modComposing (s : State) (f : OutText → OutText) : State :=
  { s with text := { s.text with outbound := s.text.outbound.map fun o => if o.state == .composing then f o else o } }

/-- The outbound queue without its COMPOSING entry. -/
def State.dropComposing (s : State) : State :=
  { s with text := { s.text with outbound := s.text.outbound.filter (·.state != .composing) } }

/-- A new COMPOSING entry (R200). -/
def composingText (dest : List Nat) (len : Nat) : OutText where
  dest := dest
  body := List.replicate len none
  state := .composing
  reference := 0
  goTick := 0
  segment := 0
  wait := .off
  resent := false

/-- SEND-BEGIN's own checks and effect (R200). -/
def State.sendBegin (s : State) (r : RxRecord) : State × Reply :=
  if !digitsOk r.payload 2 || 320 < u16 r.payload 13 then s.refuse .value
  else if s.composing?.isSome then s.refuse .state
  else if 3 ≤ s.text.outbound.length then s.refuse .full
  else
    s.acceptText false fun s =>
      State.done
        { s with text :=
          { s.text with
            outbound := s.text.outbound ++ [composingText (digitsAt r.payload 2) (u16 r.payload 13)] } }
        []

/-- SEND_BEGIN (R200). -/
def execSendBegin (s : State) : Host.Outcome State Fault Refusal := s.act (State.hostCommand 20 State.sendBegin)

/-- Bytes written one after another from a position, each at its position modulo the length; a text of length 0 has no
position to write (R200). -/
def writePiece (body : List (Option Byte)) (pos : Nat) : List Byte → List (Option Byte)
  | [] => body
  | b :: bs => writePiece (body.set (pos % body.length) (some b)) (pos + 1) bs

/-- SEND-PIECE's own checks and effect (R200). -/
def State.sendPiece (s : State) (r : RxRecord) : State × Reply :=
  if s.composing?.isNone then s.refuse .state
  else
    s.acceptText false fun s =>
      (s.modComposing fun o => { o with body := writePiece o.body (u16 r.payload 2) (r.payload.drop 4) }).done []

/-- SEND_PIECE (R200). -/
def execSendPiece (s : State) : Host.Outcome State Fault Refusal := s.act (State.hostCommand 21 State.sendPiece)

/-- The entry that SEND-GO makes QUEUED (R201). -/
def OutText.queuedAs (o : OutText) (ref : Nat) (now : Tick) : OutText :=
  { o with body := o.body.map fun b => some (b.getD 0x20), state := .queued, reference := ref, goTick := now }

/-- The COMPOSING entry becomes QUEUED, behind those queued before it; the TEXT need is raised if it is the only one (R201). -/
def State.queueText (s : State) (o : OutText) : State :=
  let first := !s.text.outLive
  let s := s.dropComposing
  let s : State :=
    { s with text :=
      { s.text with
        outbound := s.text.outbound ++ [o.queuedAs s.text.refCounter s.now]
        refCounter := (s.text.refCounter + 1) % 256 } }
  (if first then s.raiseNeed .text else s).startSending

/-- SEND-GO's own checks and effect (R201, R202). -/
def State.sendGo (s : State) (_ : RxRecord) : State × Reply :=
  match s.composing? with
  | none => s.refuse .state
  | some o => s.acceptText false fun s => (s.queueText o).done [byte s.text.refCounter]

/-- SEND_GO (R201). -/
def execSendGo (s : State) : Host.Outcome State Fault Refusal := s.act (State.hostCommand 22 State.sendGo)

/-- SEND-CANCEL's own checks and effect (R200). -/
def State.sendCancel (s : State) (_ : RxRecord) : State × Reply :=
  if s.composing?.isNone then s.refuse .state else s.acceptText false fun s => s.dropComposing.done []

/-- SEND_CANCEL (R200). -/
def execSendCancel (s : State) : Host.Outcome State Fault Refusal := s.act (State.hostCommand 23 State.sendCancel)

/-! ### Segments -/

/-- The outcomes of a TEXT-RECEIPT (section 10.5). -/
inductive Receipt where
  | ok | bad | storeFull
  deriving DecidableEq, Repr

def Receipt.code : Receipt → Nat
  | .ok => 0
  | .bad => 1
  | .storeFull => 2

/-- A TEXT-RECEIPT for a segment: its originator field, reference, total and index, and the outcome (R187, R208). -/
def State.receipt (s : State) (originator : List Byte) (p : List Byte) (o : Receipt) : State :=
  (s.uplink .text 62 (originator ++ [byte (u8 p 12), byte (u8 p 13), byte (u8 p 14), byte o.code])).1

/-- A segment is malformed (R186). -/
def segmentBad (p : List Byte) : Bool :=
  !digitsOk p 1 || u8 p 13 == 0 || 8 < u8 p 13 || u8 p 14 == 0 || u8 p 13 < u8 p 14 || 40 < u8 p 21

/-- The piece of a segment (R188). -/
def pieceOf (p : List Byte) : Piece := { index := u8 p 14, body := (p.drop 22).take (u8 p 21) }

/-- The assembly that an accepted segment opens (R188). -/
def openedBy (p : List Byte) (arrival : Tick) : Assembly where
  originator := digitsAt p 1
  reference := u8 p 12
  total := u8 p 13
  first := arrival
  stamp := (p.drop 15).take 6
  pieces := [pieceOf p]

/-- The assembly has the key of a segment (R185, R186). -/
def Assembly.hasKey (a : Assembly) (p : List Byte) : Bool :=
  a.originator == digitsAt p 1 && a.reference == u8 p 12 && a.total == u8 p 13

/-- The capacity-owed flag is set, and the exchange moved (R193, R194). -/
def State.owe (s : State) : State :=
  let s : State := { s with text := { s.text with capacityOwed := true } }
  match s.text.exchange with
  | .none => s.dueOrOwed
  | .awaiting => { s with text := { s.text with refusedSince := true } }
  | _ => s.testAvail

/-- A segment refused for room (R193). -/
def State.refuseSegment (s : State) (p : List Byte) (need : Nat) : State :=
  let s := s.receipt (fixedDigits (digitsAt p 1)) p .storeFull
  let detail := bytes2 need ++ bytes2 s.text.room ++ [byte s.text.occupied]
  (State.raise { s with text := { s.text with capacityOwed := true } } .storeFull detail).owe

/-- A complete assembly closes; otherwise the test of R194 is made, the counts having changed (R190, R194). -/
def State.closeIfComplete (s : State) (a : Assembly) : State :=
  if a.pieces.length == a.total then s.commit a else s.testAvail

/-- A segment is accepted into its assembly (R188). -/
def State.addPiece (s : State) (a : Assembly) (p : List Byte) : State :=
  let a' : Assembly := { a with pieces := a.pieces ++ [pieceOf p] }
  let s : State :=
    { s with text := { s.text with assemblies := s.text.assemblies.map fun b => if b == a then a' else b } }
  (s.receipt (fixedDigits a.originator) p .ok).closeIfComplete a'

/-- A segment is accepted and opens an assembly; a full table first closes its earliest (R188, R189). -/
def State.openAssembly (s : State) (p : List Byte) (arrival : Tick) : State :=
  let s := match s.text.assemblies with
    | a :: _ => if 6 ≤ s.text.assemblies.length then s.commit a else s
    | [] => s
  let a := openedBy p arrival
  let s : State := { s with text := { s.text with assemblies := s.text.assemblies ++ [a] } }
  (s.receipt (fixedDigits a.originator) p .ok).closeIfComplete a

/-- A segment that is not malformed is handled against the assembly with its key (R188). -/
def State.takePiece (s : State) (p : List Byte) (arrival : Tick) : State :=
  match s.text.assemblies.find? (·.hasKey p) with
  | some a =>
    if a.pieces.any (·.index == u8 p 14) then s.receipt (fixedDigits a.originator) p .ok
    else if u8 p 21 ≤ s.text.room then s.addPiece a p
    else s.refuseSegment p (u8 p 21)
  | none =>
    if u8 p 21 + 24 ≤ s.text.room && s.text.occupied < 32 then s.openAssembly p arrival
    else s.refuseSegment p (u8 p 21 + 24)

/-- A TEXT-SEGMENT is taken in connection; a malformed one is answered BAD (R186, R187, R208). -/
def State.takeSegment (s : State) (r : RxRecord) : State :=
  if !s.connected then s
  else if segmentBad r.payload then s.receipt ((r.payload.drop 1).take 11) r.payload .bad
  else s.takePiece r.payload r.arrival

/-- TEXT_SEGMENT (R186). -/
def execTextSegment (s : State) : Host.Outcome State Fault Refusal := s.act (State.radioParcel 48 State.takeSegment)

/-- ASSEMBLY_TIMEOUT: the assembly with the earliest first segment closes INCOMPLETE (R190). -/
def execAssemblyTimeout (s : State) : Host.Outcome State Fault Refusal :=
  s.act fun s =>
    match s.text.assemblies with
    | a :: _ => (s.reach (after a.first 3932160)).commit a
    | [] => s

/-! ### The exchange -/

/-- STORE_RETRY_TICK: RETRY ends, DUE if the test passes and OWED otherwise (R194). -/
def execStoreRetryTick (s : State) : Host.Outcome State Fault Refusal :=
  s.act fun s =>
    s.atTick s.text.retryTick fun s => State.dueOrOwed { s with text := { s.text with retryTick := none } }

/-- An AVAIL-ACK is taken while capacity is owed (R195). -/
def State.takeAvailAck (s : State) (_ : RxRecord) : State :=
  if !s.text.capacityOwed then s
  else
    let refused := s.text.refusedSince
    let s : State :=
      { s with text :=
        { s.text with ackWait := .off, retryTick := none, refusedSince := false, capacityOwed := refused } }
    if refused then s.dueOrOwed else s.moveExchange .none

/-- AVAIL_ACK (R195). -/
def execAvailAck (s : State) : Host.Outcome State Fault Refusal := s.act (State.radioParcel 52 State.takeAvailAck)

/-- AVAIL_ACK_WAIT_EXPIRY: the exchange moves to RETRY (R195). -/
def execAvailAckWaitExpiry (s : State) : Host.Outcome State Fault Refusal :=
  s.act fun s => s.atTick s.text.ackWait.deadline State.toRetry

/-! ### Acknowledgements of sent texts -/

/-- The last segment is acknowledged (R203). -/
def State.textSent (s : State) (o : OutText) : State := (s.raise .textSent [byte o.reference]).dropSending

/-- The SENDING entry fails (R203). -/
def State.textFailed (s : State) (o : OutText) (cause code : Nat) : State :=
  (s.raiseFailed o.reference cause code).dropSending

/-- A TEXT-ACK for the segment awaited (R203). -/
def State.segmentAcked (s : State) (o : OutText) (p : List Byte) : State :=
  if u8 p 3 != 0 then s.textFailed o 1 (u8 p 4)
  else if o.segment < o.segments then s.sendSegment (o.segment + 1) false
  else s.textSent o

/-- A TEXT-ACK is taken in connection, for the reference and segment awaited (R203). -/
def State.takeTextAck (s : State) (r : RxRecord) : State :=
  match s.sending? with
  | none => s
  | some o =>
    if s.connected && u8 r.payload 1 == o.reference && u8 r.payload 2 == o.segment then s.segmentAcked o r.payload else s

/-- TEXT_ACK (R203). -/
def execTextAck (s : State) : Host.Outcome State Fault Refusal := s.act (State.radioParcel 49 State.takeTextAck)

/-- The wait of the awaited segment expires: it is sent once more, or the text fails (R203). -/
def State.waitExpired (s : State) (o : OutText) : State :=
  if o.resent then s.textFailed o 5 0 else s.sendSegment o.segment true

/-- SEND_ACK_WAIT_EXPIRY (R203). -/
def execSendAckWaitExpiry (s : State) : Host.Outcome State Fault Refusal :=
  s.act fun s =>
    match s.sending? with
    | some o => s.atTick o.wait.deadline fun s => s.waitExpired o
    | none => s

end Sys2Proof.Machine
end

