-- ==== Sys2Proof/Machine/HostCommands.lean ====
section
/-! DEFINITION. The host commands that the command and notice unit and the paging and power unit handle (chapters 2 and 7):
SETUP, STATUS, RESTART, the queries, SHELVE, UNSHELVE and WAKE-HOLD. -/

namespace Sys2Proof.Machine

/-! ### SETUP -/

/-- The SETUP record that a payload carries, its settle exponent clamped to 4 to 9 (R33, R34, section 10.4). -/
def setupOf (p : List Byte) : Setup where
  identity := BitVec.ofNat 32 (u32 p 2)
  index := u16 p 6
  host := u8 p 8
  transceiver := u8 p 9
  settle := clampNat 4 9 (u8 p 10)
  mask := BitVec.ofNat 16 (u16 p 11)

/-- A SETUP that is answered VALUE (R33). -/
def Setup.bad (c : Setup) (own : Nat) : Bool :=
  15 < c.host || 15 < c.transceiver || c.host == own || c.transceiver == own || c.host == c.transceiver || 1023 < c.index

/-- A SETUP is accepted: its record is stored and the service state leaves UNSET for SCANNING, which the host is not told of
(R34, R100). -/
def State.acceptSetup (s : State) (c : Setup) : State :=
  State.enterScanning
    { s with
      cmd := { s.cmd with setup := some c }
      svc := { s.svc with reported := some .scanning } }
    false

/-- SETUP's own checks and effect (R33, R34). -/
def State.setup (s : State) (r : RxRecord) : State × Reply :=
  let c := setupOf r.payload
  if s.cmd.setup.isSome then s.refuse .state
  else if c.bad s.line.station then s.refuse .value
  else (s.acceptSetup c).done [byte c.settle]

/-- SETUP (R33, R34). -/
def execSetup (s : State) : Host.Outcome State Fault Refusal := s.act (State.hostCommand 8 State.setup)

/-! ### STATUS -/

/-- The records from the unread cursor to the newest (R38). -/
def Text.unreadCount (t : Text) : Nat :=
  match t.unread with
  | none => 0
  | some n => (t.store.dropWhile fun r => r.number != n).length

/-- STATUS-DATA (R38, section 10.4). -/
def State.statusData (s : State) (r : RxRecord) : List Byte :=
  [byte r.source, byte r.ref, byte s.svc.state.code, byte s.pag.power.code, byte s.line.state.code, byte s.line.sendTally,
    byte s.line.listenTally, byte s.svc.mobility.code, byte (flag 0 s.serving?.isSome + flag 1 s.cmd.setup.isSome)]
    ++ keyBytesOr (s.serving?.map (·.key))
    ++ [byte s.calls.table.length, byte s.text.store.length, byte s.text.unreadCount]
    ++ bytes2 s.text.used ++ bytes2 s.text.reserved
    ++ [byte s.text.outbound.length, byte s.cmd.notices.length, byte s.air.plan.length, byte s.air.peers.length,
      byteOr (s.cmd.setup.map (·.host)), byteOr (s.cmd.setup.map (·.transceiver)), byteOr (s.cmd.setup.map (·.settle))]

/-- STATUS's effect: none but the snapshot (R38). -/
def State.status (s : State) (r : RxRecord) : State × Reply := (s, Reply.doneWith [] [⟨6, 34, s.statusData r⟩])

/-- STATUS (R38). -/
def execStatus (s : State) : Host.Outcome State Fault Refusal := s.act (State.hostCommand 9 State.status)

/-! ### RESTART -/

/-- The units whose entries RESTART removes (R39). -/
def UnitId.radioWork : UnitId → Bool
  | .airtime => false
  | .command => false
  | _ => true

/-- An entry that RESTART removes: one of the radio units, or the NOTICE (R39). -/
def TxEntry.restartRemoves (e : TxEntry) : Bool := e.owner.radioWork || e.topic == 33

/-- The outstanding NOTICE after RESTART: ended, unless it is being sent, in which case its report changes no entry (R42). -/
def State.voidNotice (s : State) : State :=
  { s with cmd :=
    { s.cmd with
      notices := []
      noticeOut := match s.cmd.noticeOut with
        | some o => if s.line.isBeingSent o.serial then some { o with void := true } else none
        | none => none } }

/-- RESTART settles the send queue: held items of the radio units and the held NOTICE are discarded, and queued ones removed
(R39). -/
def State.clearSendPath (s : State) : State := s.removeAll TxEntry.restartRemoves

/-- LINK-CLOSE is offered to the transceiver (R39, R119, R120). -/
def State.linkClose (s : State) : State := s.offerRadio .service 2 58 []

/-- The radio connection exists (R39). -/
def State.connectionExists (s : State) : Bool := s.svc.state == .connecting || s.connected

/-- The service controller after RESTART, but for its scan (R40, R120). -/
def Service.restarted (v : Service) : Service :=
  { Service.reset with state := .scanning, reported := some .scanning, needStore := v.needStore, scan := some Scan.fresh }

/-- The paging and power unit after RESTART (R40, R140). -/
def Paging.restarted (p : Paging) : Paging :=
  { Paging.reset with
    power := .awake, roundsSinceFull := p.roundsSinceFull, wakeHold := p.wakeHold, edgeHold := p.edgeHold }

/-- The call unit after RESTART (R40, R182). -/
def Calls.restarted (c : Calls) : Calls := { Calls.reset with counter := c.counter }

/-- The text unit's state after RESTART, but for the exchange (R40, R205). -/
def Text.restarted (t : Text) : Text := { t with assemblies := [], outbound := [], timersHeld := false }

/-- The exchange over RESTART: AWAITING becomes RETRY, and then the test of R194 is made (R205). -/
def State.restartExchange (s : State) : State :=
  (if s.text.exchange == .awaiting then s.toRetry else s).testAvail

/-- RESTART's effect on every unit (R39, R40, R120, R205). -/
def State.restartUnits (s : State) : State :=
  let connection := s.connectionExists
  let s := s.clearSendPath.voidNotice.clearPlan
  let s := if connection then s.linkClose else s
  let s : State :=
    { s with
      meas := Measure.reset
      svc := s.svc.restarted
      air := { s.air with anchor := none }
      ho := Handover.reset
      pag := s.pag.restarted
      calls := s.calls.restarted
      text := s.text.restarted }
  s.restartExchange.requestScan (after s.now 65536)

/-- SERVICE-CHANGED after RESTART, unless SCANNING was the reported service (R40). -/
def State.tellRestart (s : State) : Option ServiceState → State
  | some old => if old == .scanning then s else s.raise .serviceChanged [byte old.code, byte ServiceState.scanning.code]
  | none => s

/-- RESTART's effect: the units' work cleared, a pending read cancelled, and SERVICE-CHANGED raised (R39, R40). -/
def State.restart (s : State) (_ : RxRecord) : State × Reply :=
  (s.restartUnits.cancelRead.1.tellRestart s.svc.reported,
    { Reply.done [] with first := s.restartUnits.cancelRead.2 })

/-- RESTART (R39, R40). -/
def execRestart (s : State) : Host.Outcome State Fault Refusal := s.act (State.hostCommand 10 State.restart)

/-! ### The queries -/

/-- Rows of an earlier query are still held (R37). -/
def State.rowsHeld (s : State) : Bool := s.line.held.any fun e => e.topic == 35 || e.topic == 36 || e.topic == 37

/-- The rows of a query: each has its head and body (R37, section 10.4). -/
def rowParcels (host ref topic total : Nat) : Nat → List (List Byte) → List HostParcel
  | _, [] => []
  | i, b :: bs =>
    ⟨6, topic, [byte host, byte ref, byte i, byte total, byte (flag 0 (i == total))] ++ b⟩
      :: rowParcels host ref topic total (i + 1) bs

/-- A query: BUSY while earlier rows are held, else DONE with the count and the rows (R37). -/
def State.query (s : State) (r : RxRecord) (topic : Nat) (bodies : List (List Byte)) : State × Reply :=
  if s.rowsHeld then s.refuse .busy
  else (s, Reply.doneWith [byte bodies.length] (rowParcels s.host r.ref topic bodies.length 1 bodies))

/-- The role of a call record in a step in flight (R184). -/
def State.callRole (s : State) (c : Call) : Nat :=
  if s.calls.deferred == some c.handle then 2
  else if c.state == .holding && s.calls.deferred.isSome then 1
  else if s.inPair c.handle then 3
  else 0

/-- A timer in a CALL-ROW: its kind and the ticks remaining (R184). -/
def timerBytes (now : Tick) : Timer → List Byte
  | .off => 0 :: bytes4 0
  | .running d => 1 :: bytes4 (if later d now then elapsed d now else 0)
  | .held n => 2 :: bytes4 n

/-- The body of a CALL-ROW (R184). -/
def State.callRow (s : State) (c : Call) : List Byte :=
  [byte c.handle, if c.out then 0 else 1, byte c.state.code, byte c.waiting.toNat, byte c.transaction, byte (s.callRole c),
    byte c.cause.isSome.toNat, byte ((c.cause.map CallCause.code).getD 0), byte ((c.cause.map CallCause.netCode).getD 0)]
    ++ timerBytes s.now c.timer ++ fixedDigits (c.number.getD [])

/-- QUERY_CALLS (R37, R184). -/
def execQueryCalls (s : State) : Host.Outcome State Fault Refusal :=
  s.act (State.hostCommand 28 fun s r => s.query r 35 (s.calls.table.map s.callRow))

/-- The offset of a tick from now, or 0 when it is absent (R74, R97, R210). -/
def State.offsetBytes (s : State) : Option Tick → List Byte
  | some t => sbytes4 (offset t s.now)
  | none => bytes4 0

/-- A value in 1/16 dB, or 0 when it is absent (R97, R210). -/
def valueBytes : Option Int → List Byte
  | some v => sbytes2 v
  | none => bytes2 0

/-- The presence flags of a CELL-ROW (section 10.4). -/
def Cell.flags (c : Cell) : Nat :=
  flag 0 c.level.isSome + flag 1 c.quality.isSome + flag 2 c.barredUntil.isSome + flag 3 c.penaltyUntil.isSome
    + flag 4 c.betterSince.isSome + flag 5 c.lastSample.isSome

/-- The body of a CELL-ROW (R97, section 10.4). -/
def State.cellRow (s : State) (c : Cell) : List Byte :=
  keyBytes c.key ++ [byte c.role.code, byteOr (c.before.map Role.code), byte c.flags] ++ s.offsetBytes c.barredUntil
    ++ valueBytes c.level ++ valueBytes c.quality ++ [byte c.samples, sbyte c.offset, byte c.penalty]
    ++ s.offsetBytes c.penaltyUntil ++ s.offsetBytes c.betterSince ++ [byte c.misses] ++ s.offsetBytes c.lastSample

/-- QUERY_CELLS, its rows ordered by channel and then by beacon code (R37, R97). -/
def execQueryCells (s : State) : Host.Outcome State Fault Refusal :=
  s.act (State.hostCommand 29 fun s r =>
    s.query r 36 ((sortBy (fun a b => keyBelow a.key b.key) s.meas.cells).map s.cellRow))

/-- The body of a PLAN-ROW for an own window (R74). -/
def State.ownRow (s : State) (w : Window) : List Byte :=
  [0, byte s.line.station, byte w.id, byte w.kind.code, byte w.cls, byte w.state.code,
    byte (flag 0 w.echoed + flag 1 w.cut.isSome), byte w.owner.code]
    ++ sbytes4 (offset w.start s.now) ++ sbytes4 (offset w.stop s.now)

/-- The body of a PLAN-ROW for a peer claim (R74). -/
def State.peerRow (s : State) (c : Claim) : List Byte :=
  [1, byte c.station, byte c.id, byte c.kind, byte c.cls, 255, 0, 255]
    ++ sbytes4 (offset c.start s.now) ++ sbytes4 (offset c.stop s.now)

/-- QUERY_PLAN: the own windows and then the peer claims (R37, R74). -/
def execQueryPlan (s : State) : Host.Outcome State Fault Refusal :=
  s.act (State.hostCommand 30 fun s r => s.query r 37 (s.air.plan.map s.ownRow ++ s.air.peers.map s.peerRow))

/-! ### SHELVE, UNSHELVE and WAKE-HOLD -/

/-- A SCAN-ORDER, CAMP-REQ or LINK-REQ, also one that no record names any more (R120). -/
def TxEntry.isServiceRequest (e : TxEntry) : Bool := e.topic == 68 || e.topic == 56 || e.topic == 57

/-- A MEASURE-ORDER or PARAMS-REQ, also one that no record names any more (R159 step 3). -/
def TxEntry.isPlanRequest (e : TxEntry) : Bool := e.topic == 66 || e.topic == 67

/-- The service controller's part in a SHELVE (R120, R159 step 1). -/
def State.shelveService (s : State) : State :=
  let s := if s.svc.state == .connecting || s.svc.state == .linked then s.linkClose else s
  let s := s.removeAll TxEntry.isServiceRequest
  State.setService
    { s with svc :=
      { s.svc with
        needPage := none, scan := none, camp := none, conn := Conn.idle, traffic := Traffic.idle, campTick := none,
        unsuitable := 0 } }
    .shelved

/-- The paging and power unit's part in a SHELVE (R159 step 2). -/
def State.shelvePaging (s : State) : State :=
  { s with pag :=
    { s.pag with
      running := false, planOwed := false, cycles := [], fullMeasures := [], info := none, missed := 0, missReason := none } }

/-- The plan is cleared and the requests of its windows removed, and the measurement unit is emptied (R159 steps 3 and 4). Calm-since is
kept, whatever the default parameters make of the count (R120). -/
def State.shelvePlan (s : State) : State := { s.clearPlan.removeAll TxEntry.isPlanRequest with meas := Measure.reset }

/-- The text unit's part in a SHELVE (R159 step 6, R205). -/
def State.shelveText (s : State) : State :=
  State.testAvail
    { s with text :=
      { s.text with assemblies := [], outbound := s.text.outbound.filter (·.state != .composing) } }

/-- A CALL-SIGNAL (section 10.1). -/
def TxEntry.isCallSignal (e : TxEntry) : Bool := e.topic == 60

/-- The call unit's part in a SHELVE: no CALL-SIGNAL, left by a cleared call, stays queued or held (R182; DEDUCED, assumption log,
entry 18). -/
def State.shelveCalls (s : State) : State := s.removeAll TxEntry.isCallSignal

/-- SHELVE's own checks and effect (R158, R159, R182). -/
def State.shelve (s : State) (_ : RxRecord) : State × Reply :=
  if !s.calls.table.isEmpty || s.text.outLive || s.inSwitch then s.refuse .busy
  else (s.shelveService.shelvePaging.shelvePlan.rankingReset.shelveText.shelveCalls).done []

/-- SHELVE (R158, R159). -/
def execShelve (s : State) : Host.Outcome State Fault Refusal := s.act (State.hostCommand 11 State.shelve)

/-- UNSHELVE's own checks and effect (R161). -/
def State.unshelve (s : State) (_ : RxRecord) : State × Reply :=
  if s.svc.state != .shelved then s.refuse .state
  else (State.enterScanning { s with svc := { s.svc with backoff := 65536 } } false).done []

/-- UNSHELVE (R161). -/
def execUnshelve (s : State) : Host.Outcome State Fault Refusal := s.act (State.hostCommand 12 State.unshelve)

/-- WAKE-HOLD's own checks and effect (R157). -/
def State.setWakeHold (s : State) (r : RxRecord) : State × Reply :=
  let v := u8 r.payload 2
  if 1 < v then s.refuse .value
  else State.done { s with pag := { s.pag with wakeHold := v == 1 } } [byte s.pag.wakeHold.toNat]

/-- WAKE_HOLD (R157). -/
def execWakeHold (s : State) : Host.Outcome State Fault Refusal := s.act (State.hostCommand 13 State.setWakeHold)

end Sys2Proof.Machine
end

