-- ==== Sys2Proof/Machine/LineEvents.lean ====
section
/-! DEFINITION. The commands of the line interface (chapter 1) and of reset and settling (R31, R152). -/

namespace Sys2Proof.Machine

/-! ### Shared operations -/

/-- The line interface sends, receives, echoes and marks: AWAKE, joined and not DETACHED (R1, R2, R23). -/
def State.lineWorks (s : State) : Bool := s.pag.power == .awake && s.line.joined && s.line.state != .detached

/-- The line interface is doing something else on the line. -/
def State.setPhase (s : State) (p : LinePhase) : State := { s with line := { s.line with phase := p } }

/-- An event on the line, after which it is not idle for a while. -/
def State.setWait (s : State) (w : LineWait) : State := { s with line := { s.line with wait := w } }

/-- The bits that a station, while MUTED, waits for after the gap (R22). -/
def State.setExtraWait (s : State) (n : Nat) : State := { s with line := { s.line with extraWait := n } }

/-- A parcel begins on the line, after a gap without an own holdoff (R17; assumption log, entry 14). -/
def State.clearHoldoffs (s : State) : State := { s with line := { s.line with ownHoldoffs := 0 } }

/-- An entry as a parcel from the part's own station (R3, R24). -/
def Line.parcel (l : Line) (e : TxEntry) : Parcel where
  cls := BitVec.ofNat 3 e.cls
  topic := BitVec.ofNat 7 e.topic
  source := BitVec.ofNat 4 l.station
  payload := e.payload

/-- The payload of a CLAIM or WITHDRAW with its offset fields written for a tail tick (R27). -/
def writtenPayload (e : TxEntry) (tail : Tick) : List Byte :=
  match e.span with
  | none => e.payload
  | some (.claim start stop) =>
    let start' := laterOf start tail
    let off := if later start tail then elapsed start tail else 0
    let len := if later stop start' then min 65535 (elapsed stop start') else 0
    e.payload.take 3 ++ bytes2 off ++ bytes2 len
  | some (.withdraw newEnd) =>
    let cut := match newEnd with
      | some t => if later t tail then elapsed t tail else 0
      | none => 0
    e.payload.take 2 ++ bytes2 cut

/-- The tick in which the fifth tail bit ends, of an attempt begun `frac`/15625 into tick `open_` (R1, R27). -/
def Line.tailTick (l : Line) (e : TxEntry) (open_ : Tick) (frac : Nat) : Tick :=
  after open_ ((frac + bitsToTailEnd (l.parcel e) * bitTime l.rate) / 15625)

/-- The tail tick of an attempt whose offsets are written for tail tick `t`. -/
def Line.tailFor (l : Line) (e : TxEntry) (open_ : Tick) (frac : Nat) (t : Tick) : Tick :=
  l.tailTick { e with payload := writtenPayload e t } open_ frac

/-- The tail tick that agrees with the offsets written from it, the earliest if there are several (R27). The four offset
bytes change the number of stuff bits by less than a tick's worth, so it lies within one tick of the first reckoning. -/
def Line.agreedTail (l : Line) (e : TxEntry) (open_ : Tick) (frac : Nat) : Option Tick :=
  let t := l.tailFor e open_ frac open_
  [before t 1, t, after t 1].find? fun t => l.tailFor e open_ frac t == t

/-- The tail tick of an attempt; where none agrees with its own offsets, one of two, as a free value chooses (assumption log,
entry 6). The second component says that the free value was used. -/
def State.chooseTail (s : State) (e : TxEntry) (open_ : Tick) (frac : Nat) : Tick × Bool :=
  match s.line.agreedTail e open_ frac with
  | some t => (t, false)
  | none =>
    let a := s.line.tailFor e open_ frac open_
    let b := s.line.tailFor e open_ frac a
    (if Config.laterTailTick s.freeCount then b else a, true)

/-- The entry of the queue with a serial number. -/
def Line.entry? (l : Line) (serial : Nat) : Option TxEntry := l.txq.find? (·.serial == serial)

/-- An entry leaves the queue, and its unit is told (R25, R26). -/
def State.leaveQueue (s : State) (e : TxEntry) (sent : Bool) (tail : Tick) : State :=
  State.push { s with line := s.line.dequeue e.serial } (.told sent e tail)

/-- An attempt ended without completing: the entry stays, or leaves unsent if its removal was asked for (R16, R25, R26). -/
def State.attemptFailed (s : State) (serial : Nat) : State :=
  match s.line.entry? serial with
  | some e => if e.removal then s.leaveQueue e false s.now else s
  | none => s

/-- A sender detects a fault: its mark, whose kind is that of the line state before it, the send tally's rise, the failed
attempt, and past arbitration the extra wait, which binds the station if it is MUTED then or turns so by a rise in or after its
mark (R15, R16, R19, R22). -/
def State.senderFault (s : State) (a : Attempt) (rises pastTag : Bool) : State :=
  let s := (s.setPhase (.marked (s.line.state == .vocal) true 0)).setWait (.mark s.now)
  let s := if rises then s.sendRise 6 else s
  let s := s.attemptFailed a.serial
  if pastTag then s.setExtraWait 8 else s

/-- A receiver detects a fault: the listen tally rises at the bit of detection, and its mark follows (R15, R16, R19). -/
def State.receiverFault (s : State) : State :=
  let s := (s.clearHoldoffs.listenRise 1).setExtraWait 0
  (s.setPhase (.marked (s.line.state == .vocal) false 0)).setWait (.mark s.now)

/-- The bit of the part's own attempt at a place. -/
def State.ownBit (s : State) (a : Attempt) (i : Nat) : Option SentBit :=
  (s.line.entry? a.serial).bind fun e => sentBit (s.line.parcel e) i

/-- A tally of the part's role in the parcel rises by 6 (R19). -/
def State.markRise (s : State) (sender : Bool) : State := if sender then s.sendRise 6 else s.listenRise 6

/-- Work of the line interface, done only while it works. -/
def State.onLine (s : State) (f : State → State) : State := if s.lineWorks then f s else s

/-! ### Reset and settling -/

/-- RESET_ASSERT: every piece of state takes its hard-reset value (R31). -/
def execResetAssert (s : State) : Host.Outcome State Fault Refusal :=
  .next { State.reset with freeCount := s.freeCount, pending := s.pending }

/-- RESET_RELEASE: the straps are read, the tick counter counts from 0 and the start settle wait of 512 ticks begins (R1, R31,
R46). -/
def execResetRelease (stn : BitVec 4) (rate : BitVec 2) (s : State) : Host.Outcome State Fault Refusal :=
  .next
    (if s.inReset then
      { s with
        inReset := false
        line := { s.line with station := stn.toNat, rate := rate.toNat }
        air := { s.air with now := 0 }
        pag := { s.pag with power := .settling, settleEnd := some 512 } }
    else s)

/-- The part is AWAKE and begins to join (R2, R151). -/
def State.awaken (s : State) : State :=
  { s with
    pag := { s.pag with power := .awake, settleEnd := none }
    line := { s.line with joined := false, joinCount := 0, phase := .idle, wait := .idle } }

/-- SETTLE_END: the settle wait ends (R31, R152). -/
def execSettleEnd (s : State) : Host.Outcome State Fault Refusal :=
  s.act fun s =>
    match s.pag.settleEnd with
    | some t => if s.pag.power == .settling then (s.reach t).awaken else s
    | none => s

/-- JOIN_COMPLETE: the fourteenth recessive bit in a row has been read (R2, R17). -/
def execJoinComplete (s : State) : Host.Outcome State Fault Refusal :=
  s.act fun s =>
    if s.pag.power == .awake && !s.line.joined then
      { s with line :=
        { s.line with joined := true, joinCount := 14, ownHoldoffs := 0, phase := .idle, wait := .idle } }
    else s

/-! ### Sending -/

/-- The recessive bits after the gap that the part still waits for: none while VOCAL (R22). -/
def Line.extraLeft (l : Line) : Nat := if l.state == .vocal then 0 else l.extraWait

/-- The line is idle for the part after `quiet` recessive bits in a row: its own mark, the delimiter and the gap have passed, and a
MUTED station's extra wait with them (R7, R8, R15, R18, R22). -/
def State.idleAfter (s : State) (frac quiet : Nat) : Bool :=
  s.line.wait.need + s.line.extraLeft ≤ quiet && s.line.wait.passed s.line.wait.bits s.line.rate s.now frac

/-- Another station's dominant bit after `quiet` recessive bits in a row stands in gap bit 3 or 4, and the part's own opportunity
would come at the gap's end, so that it takes the bit as its own opening bit as well (R8). -/
def State.takesOpening (s : State) (frac quiet : Nat) : Bool :=
  s.line.extraLeft == 0 && 4 ≤ s.line.wait.bits && s.line.wait.need ≤ quiet + 2
    && s.line.wait.passed (s.line.wait.bits - 2) s.line.rate s.now frac

/-- A send opportunity holds `frac`/15625 into this tick, after `quiet` recessive bits in a row; `taken` says that the bit read
is another station's dominant one (R8, R22). -/
def State.maySend (s : State) (frac quiet : Nat) (taken : Bool) : Bool :=
  s.lineWorks && s.line.phase.free && (s.idleAfter frac quiet || (taken && s.takesOpening frac quiet))

/-- The head of the queue is started: the offsets of a CLAIM or WITHDRAW are written for this attempt (R8, R24, R27). -/
def State.startAttempt (s : State) (e : TxEntry) (frac : Nat) : State :=
  let (tail, free) := s.chooseTail e s.now frac
  let e' : TxEntry := { e with payload := writtenPayload e tail }
  let a : Attempt := { serial := e.serial, bits := wire (s.line.parcel e'), openTick := s.now, tailTick := tail }
  { s with
    freeCount := if free then s.freeCount + 1 else s.freeCount
    line :=
      { s.line with
        phase := .sending a
        wait := .idle
        extraWait := 0
        ownHoldoffs := 0
        txq := s.line.txq.map fun f => if f.serial == e.serial then e' else f } }

/-- SEND_OPPORTUNITY: the entry at the head of the queue is started (R8). -/
def execSendOpportunity (tick : Tick) (frac : Nat) (quiet : OpeningRead) (s : State) : Host.Outcome State Fault Refusal :=
  s.act fun s =>
    match s.line.txq with
    | [] => s
    | e :: _ =>
      if frac < 15625 && (s.reach tick).maySend frac quiet.bits quiet.taken then (s.reach tick).startAttempt e frac else s

/-- ARBITRATION_LOST at tag bit `bit`, which the part sent recessive: it receives the parcel from then on (R9, R25). -/
def execArbitrationLost (bit : Nat) (s : State) : Host.Outcome State Fault Refusal :=
  s.act fun s => s.onLine fun s =>
    match s.line.phase with
    | .sending a =>
      match s.line.entry? a.serial with
      | some e =>
        if bit < 14 && (s.line.tag e).testBit (13 - bit) then (s.setPhase .receiving).attemptFailed a.serial else s
      | none => s
    | _ => s

/-- PARCEL_SENT: the fifth tail bit of an own parcel has passed with its echo read (R7, R20, R22, R25). -/
def execParcelSent (s : State) : Host.Outcome State Fault Refusal :=
  s.act fun s => s.onLine fun s =>
    match s.line.phase with
    | .sending a =>
      match s.line.entry? a.serial with
      | some e =>
        let s := (((s.reach a.tailTick).setPhase .idle).setWait (.parcel a.tailTick)).sendFall
        (s.setExtraWait (if s.line.state == .muted then 8 else 0)).leaveQueue e true a.tailTick
      | none => s.setPhase .idle
    | _ => s

/-! ### Faults -/

/-- BIT_FAULT: a bit the part drives reads the other level (R10, R15, R19). -/
def execBitFault (place : BitFaultAt) (s : State) : Host.Outcome State Fault Refusal :=
  s.act fun s => s.onLine fun s =>
    match place, s.line.phase with
    | .sent i, .sending a =>
      match s.ownBit a i with
      | some (.opening _) => s.senderFault a true false
      | some (.tag level) => if level then s else s.senderFault a true false
      | some (.tagStuff level) => if level then s else s.senderFault a true false
      | some (.pastTag _) => s.senderFault a true true
      | none => s
    | .mark, .marked true sender _ => s.markRise sender
    | _, _ => s

/-- The last bit read is the part's own recessive stuff bit of the tag, read dominant: a fault without a rise, be it the seventh
equal bit or not (R11, R19). -/
def State.ownTagStuffRead (s : State) (a : Attempt) (bits : List Bool) : Bool :=
  s.ownBit a (bits.length - 1) == some (.tagStuff true) && bits.getLast? == some false

/-- STUFF_FAULT: seven equal bits in the stuffed part, or an own recessive stuff bit of the tag read dominant (R11, R19). -/
def execStuffFault (place : StuffFaultAt) (s : State) : Host.Outcome State Fault Refusal :=
  s.act fun s => s.onLine fun s =>
    match place, s.line.phase with
    | .ownTag i, .sending a => if s.ownBit a i == some (.tagStuff true) then s.senderFault a false false else s
    | .read bits, .sending a =>
      if isStuffFault bits then
        if s.ownTagStuffRead a bits then s.senderFault a false false
        else
          s.senderFault a true (match s.ownBit a (bits.length - 1) with
            | some (.pastTag _) => true
            | _ => false)
      else s
    | .read bits, _ => if isStuffFault bits then s.receiverFault else s
    | _, _ => s

/-- CHECK_FAULT: the check received differs from the check of the bits received (R5, R12). -/
def execCheckFault (bits : List Bool) (s : State) : Host.Outcome State Fault Refusal :=
  s.act fun s => s.onLine fun s =>
    match s.line.phase with
    | .sending _ => s
    | _ => if unwire bits == .checkFault then s.receiverFault else s

/-- FORM_FAULT: a dominant level in a delimiter or in tail bits 1 to 4, or a size of 65 to 127 received (R13). -/
def execFormFault (place : FormFaultAt) (s : State) : Host.Outcome State Fault Refusal :=
  s.act fun s => s.onLine fun s =>
    if !place.wf then s
    else
      match s.line.phase, place with
      | .sending _, .size _ => s
      | .sending a, _ => s.senderFault a true true
      | _, _ => s.receiverFault

/-- ECHO_FAULT: the sender reads recessive in the echo slot (R14, R19). -/
def execEchoFault (markDominant : Bool) (s : State) : Host.Outcome State Fault Refusal :=
  s.act fun s => s.onLine fun s =>
    match s.line.phase with
    | .sending a => s.senderFault a (s.line.state == .vocal || markDominant) true
    | _ => s

/-- The rises at the n-th consecutive dominant bit after an own mark (R19). -/
def runRises (loud : Bool) (n : Nat) : Bool :=
  if loud then 15 ≤ n && (n - 15) % 8 == 0 else 9 ≤ n && (n - 9) % 8 == 0

/-- DOMINANT_AFTER_SPOIL_MARK: the n-th bit of the dominant run that began with the first bit after the mark (R15, R19). -/
def execDominantAfterSpoilMark (n : Nat) (s : State) : Host.Outcome State Fault Refusal :=
  s.act fun s => s.onLine fun s =>
    match s.line.phase with
    | .marked loud sender run =>
      if n ≤ run then s
      else
        let s := (s.setPhase (.marked loud sender n)).setWait (.delimiter s.now)
        let s := if n == 1 && !sender then s.listenRise 6 else s
        if runRises loud n then s.markRise sender else s
    | _ => s

/-! ### Holdoffs -/

/-- A holdoff mark of the part's own begins, sent or answering: the delimiter and another gap follow (R18). -/
def State.holdoff (s : State) : State := (s.setPhase .holdoff).setWait (.mark s.now)

/-- OWN_HOLDOFF, at the first bit of the gap that follows a parcel, mark or holdoff: sent with fewer than 72 free bytes unless the
two gaps before began with one (R17). A gap has one first bit. -/
def execOwnHoldoff (s : State) : Host.Outcome State Fault Refusal :=
  s.act fun s => s.onLine fun s =>
    if !(s.line.phase.free && s.line.wait.gap) then s
    else if s.line.rxFree < 72 && s.line.ownHoldoffs < 2 then
      State.holdoff { s with line := { s.line with ownHoldoffs := s.line.ownHoldoffs + 1 } }
    else s.clearHoldoffs.setWait { s.line.wait with gap := false }

/-- A bit read dominant stands where it is said to: in the fifth tail bit of the parcel just complete, or in bit 1 or 2 of a gap,
with the recessive bits of the delimiter before it where the gap follows one (R3, R7, R15). -/
def LineWait.admits (w : LineWait) : HoldoffAt → Bool
  | .tail => w.bits == 4 && w.gap
  | .gap n quiet => 4 ≤ w.bits && 1 ≤ n && n ≤ 2 && quiet + 5 == n + w.need

/-- HOLDOFF_ANSWER: a dominant level that the part did not itself send, read in gap bit 1 or 2 or in the fifth tail bit, is answered
(R7, R18). In a gap that the part's own holdoff began there is no delimiter before it, and so no answer. -/
def execHoldoffAnswer (gapBit : HoldoffAt) (s : State) : Host.Outcome State Fault Refusal :=
  s.act fun s => s.onLine fun s =>
    if s.line.phase.free && s.line.wait.admits gapBit then s.clearHoldoffs.holdoff else s

/-! ### Receiving -/

/-- The record of a parcel (R29). -/
def recordOf (p : Parcel) (arrival : Tick) : RxRecord where
  cls := p.cls.toNat
  topic := p.topic.toNat
  source := p.source.toNat
  payload := p.payload
  arrival := arrival

/-- An accepted parcel joins the reception queue, or is dropped for want of room (R29). -/
def State.enqueue (s : State) (r : RxRecord) : State :=
  if r.bytes ≤ s.line.rxFree then { s with line := { s.line with rxq := s.line.rxq ++ [r] } }
  else s.raise .receiveOverrun [byte r.topic, byte r.source]

/-- A parcel is complete for the part as a receiver (R7, R20, R28). -/
def State.received (s : State) (p : Parcel) (arrival : Tick) : State :=
  let s := (((s.clearHoldoffs.setExtraWait 0).setPhase .idle).setWait (.parcel arrival)).listenFall
  if s.accepts p.topic.toNat p.source.toNat p.payload then s.enqueue (recordOf p arrival) else s

/-- PARCEL_RECEIVED, with its fifth tail bit ending in tick `arrival` (R6, R7, R28, R29). -/
def execParcelReceived (arrival : Tick) (p : Parcel) (s : State) : Host.Outcome State Fault Refusal :=
  s.act fun s => s.onLine fun s =>
    match s.line.phase with
    | .sending _ => s
    | _ => if p.wf then (s.reach arrival).received p arrival else s

/-- RECOVERY_COMPLETE: the 48th run of 12 recessive bits has passed (R21, R23). -/
def execRecoveryComplete (s : State) : Host.Outcome State Fault Refusal :=
  s.act fun s =>
    if s.pag.power == .awake && s.line.state == .detached then
      State.setTallies { s with line := { s.line with recoveryCount := 48, phase := .idle, wait := .idle } } 0 0
    else s

end Sys2Proof.Machine
end

