-- ==== Sys2Proof/Machine/Dispatch.lean ====
section
/-! DEFINITION. The meaning of every command: one arm per row of the step table. -/

namespace Sys2Proof.Machine

/-- A command's effect on everything but the queue. -/
def exec (i : Instr) (s : State) : Host.Outcome State Fault Refusal :=
  match i with
  | .resetAssert => Sys2Proof.Machine.execResetAssert s
  | .resetRelease stn rate => Sys2Proof.Machine.execResetRelease stn rate s
  | .settleEnd => Sys2Proof.Machine.execSettleEnd s
  | .joinComplete => Sys2Proof.Machine.execJoinComplete s
  | .sendOpportunity tick frac quiet => Sys2Proof.Machine.execSendOpportunity tick frac quiet s
  | .arbitrationLost bit => Sys2Proof.Machine.execArbitrationLost bit s
  | .bitFault place => Sys2Proof.Machine.execBitFault place s
  | .stuffFault place => Sys2Proof.Machine.execStuffFault place s
  | .checkFault bits => Sys2Proof.Machine.execCheckFault bits s
  | .formFault place => Sys2Proof.Machine.execFormFault place s
  | .echoFault markDominant => Sys2Proof.Machine.execEchoFault markDominant s
  | .ownHoldoff => Sys2Proof.Machine.execOwnHoldoff s
  | .holdoffAnswer gapBit => Sys2Proof.Machine.execHoldoffAnswer gapBit s
  | .parcelReceived arrival p => Sys2Proof.Machine.execParcelReceived arrival p s
  | .parcelSent => Sys2Proof.Machine.execParcelSent s
  | .recoveryComplete => Sys2Proof.Machine.execRecoveryComplete s
  | .claimStartRemoval id => Sys2Proof.Machine.execClaimStartRemoval id s
  | .setup => Sys2Proof.Machine.execSetup s
  | .status => Sys2Proof.Machine.execStatus s
  | .restart => Sys2Proof.Machine.execRestart s
  | .shelve => Sys2Proof.Machine.execShelve s
  | .unshelve => Sys2Proof.Machine.execUnshelve s
  | .wakeHold => Sys2Proof.Machine.execWakeHold s
  | .dial => Sys2Proof.Machine.execDial s
  | .answer => Sys2Proof.Machine.execAnswer s
  | .hangup => Sys2Proof.Machine.execHangup s
  | .hold => Sys2Proof.Machine.execHold s
  | .resume => Sys2Proof.Machine.execResume s
  | .swap => Sys2Proof.Machine.execSwap s
  | .sendBegin => Sys2Proof.Machine.execSendBegin s
  | .sendPiece => Sys2Proof.Machine.execSendPiece s
  | .sendGo => Sys2Proof.Machine.execSendGo s
  | .sendCancel => Sys2Proof.Machine.execSendCancel s
  | .readText => Sys2Proof.Machine.execReadText s
  | .readMore => Sys2Proof.Machine.execReadMore s
  | .releaseText => Sys2Proof.Machine.execReleaseText s
  | .rewind => Sys2Proof.Machine.execRewind s
  | .queryCalls => Sys2Proof.Machine.execQueryCalls s
  | .queryCells => Sys2Proof.Machine.execQueryCells s
  | .queryPlan => Sys2Proof.Machine.execQueryPlan s
  | .claim => Sys2Proof.Machine.execClaim s
  | .withdraw => Sys2Proof.Machine.execWithdraw s
  | .claimExpiry station id => Sys2Proof.Machine.execClaimExpiry station id s
  | .anchorRebase => Sys2Proof.Machine.execAnchorRebase s
  | .claimOffer id => Sys2Proof.Machine.execClaimOffer id s
  | .standDeadline id => Sys2Proof.Machine.execStandDeadline id s
  | .windowStart id => Sys2Proof.Machine.execWindowStart id s
  | .windowEnd id => Sys2Proof.Machine.execWindowEnd id s
  | .cellParams => Sys2Proof.Machine.execCellParams s
  | .cellList => Sys2Proof.Machine.execCellList s
  | .measureReport => Sys2Proof.Machine.execMeasureReport s
  | .reportInterval => Sys2Proof.Machine.execReportInterval s
  | .roundSilenceDeadline id => Sys2Proof.Machine.execRoundSilenceDeadline id s
  | .scanResult => Sys2Proof.Machine.execScanResult s
  | .penaltyExpiry key => Sys2Proof.Machine.execPenaltyExpiry key s
  | .barringExpiry key => Sys2Proof.Machine.execBarringExpiry key s
  | .scanRetry => Sys2Proof.Machine.execScanRetry s
  | .scanResultDeadline => Sys2Proof.Machine.execScanResultDeadline s
  | .campResult => Sys2Proof.Machine.execCampResult s
  | .campResultDeadline => Sys2Proof.Machine.execCampResultDeadline s
  | .mobilityCountExpiry entry => Sys2Proof.Machine.execMobilityCountExpiry entry s
  | .mobilityFall => Sys2Proof.Machine.execMobilityFall s
  | .linkResult => Sys2Proof.Machine.execLinkResult s
  | .linkResultDeadline => Sys2Proof.Machine.execLinkResultDeadline s
  | .linkDropped => Sys2Proof.Machine.execLinkDropped s
  | .chunkRenewal id => Sys2Proof.Machine.execChunkRenewal id s
  | .chunkRetry => Sys2Proof.Machine.execChunkRetry s
  | .gapCheck => Sys2Proof.Machine.execGapCheck s
  | .connectionLoss => Sys2Proof.Machine.execConnectionLoss s
  | .idleClose => Sys2Proof.Machine.execIdleClose s
  | .handoverOrder => Sys2Proof.Machine.execHandoverOrder s
  | .switchResult => Sys2Proof.Machine.execSwitchResult s
  | .frameEnd => Sys2Proof.Machine.execFrameEnd s
  | .pageResult => Sys2Proof.Machine.execPageResult s
  | .watchResultDeadline id => Sys2Proof.Machine.execWatchResultDeadline id s
  | .infoWaitDeadline => Sys2Proof.Machine.execInfoWaitDeadline s
  | .dozeEntry => Sys2Proof.Machine.execDozeEntry s
  | .wakeTick => Sys2Proof.Machine.execWakeTick s
  | .lineEdgeWake tick => Sys2Proof.Machine.execLineEdgeWake tick s
  | .edgeHoldExpiry => Sys2Proof.Machine.execEdgeHoldExpiry s
  | .shelvedEntry => Sys2Proof.Machine.execShelvedEntry s
  | .lingerExpiry => Sys2Proof.Machine.execLingerExpiry s
  | .callEvent => Sys2Proof.Machine.execCallEvent s
  | .callTimerExpiry handle => Sys2Proof.Machine.execCallTimerExpiry handle s
  | .textSegment => Sys2Proof.Machine.execTextSegment s
  | .assemblyTimeout => Sys2Proof.Machine.execAssemblyTimeout s
  | .storeRetryTick => Sys2Proof.Machine.execStoreRetryTick s
  | .availAck => Sys2Proof.Machine.execAvailAck s
  | .availAckWaitExpiry => Sys2Proof.Machine.execAvailAckWaitExpiry s
  | .textAck => Sys2Proof.Machine.execTextAck s
  | .sendAckWaitExpiry => Sys2Proof.Machine.execSendAckWaitExpiry s
  | .dominantAfterSpoilMark n => Sys2Proof.Machine.execDominantAfterSpoilMark n s

end Sys2Proof.Machine
end

