-- ==== Sys2Proof/Safety.lean ====
section
/-! DEFINITION. The terms in which statements about the VE840 are made: when the part is ready for a command, what it is to
have sent a parcel or answered a host command, and the invariants that every command keeps. -/

namespace Sys2Proof.Machine

/-! ### Between commands -/

/-- Out of reset, with no work left from an earlier command (R31; assumption log, entry 9). -/
abbrev State.Settled (s : State) : Prop := s.inReset = false ∧ s.agenda = []

/-- Settled and AWAKE (R151). -/
abbrev State.Ready (s : State) : Prop := s.inReset = false ∧ s.agenda = [] ∧ s.pag.power = .awake

/-- Ready, with the line interface joined and not DETACHED, so that it sends, receives and marks (R1, R2, R23). -/
abbrev State.OnLine (s : State) : Prop := s.Ready ∧ s.lineWorks = true

/-- The line interface is not sending a parcel. -/
def LinePhase.notSending : LinePhase → Bool
  | .sending _ => false
  | _ => true

/-- Ready, and the oldest record is this one, of this topic (R30). -/
abbrev State.Front (s : State) (topic : Nat) (r : RxRecord) : Prop :=
  s.Ready ∧ s.line.rxq.head? = some r ∧ r.topic = topic

/-- Ready, and the oldest record is a host command of this topic that passes the checks of R36. -/
abbrev State.Commanded (s : State) (topic : Nat) (r : RxRecord) : Prop := s.Front topic r ∧ s.preCheck r = none

/-- Ready, and the oldest record is a parcel of this topic, neither short nor malformed (R207, R208). -/
abbrev State.Receives (s : State) (topic : Nat) (r : RxRecord) : Prop :=
  s.Front topic r ∧ isShort r.topic r.payload = false ∧ isMalformed r.topic r.payload = false

/-- The airtime plan and the peer claim list are empty, so that a request is placed at its earliest tick (R60). -/
abbrev State.PlanClear (s : State) : Prop := s.air.plan = [] ∧ s.air.peers = []

/-- This ACTIVE window alone is in the plan, and there is no peer claim. -/
abbrev State.PlanIs (s : State) (w : Window) : Prop := s.air.plan = [w] ∧ s.air.peers = []

/-- No WITHDRAW is owed, queued or held, so that a new window passes over the ids of the plan alone (R54). -/
abbrev State.NoWithdraw (s : State) : Prop := s.air.owed = [] ∧ ∀ e ∈ s.line.txq ++ s.line.held, e.topic ≠ 2

/-- Each entry of the send path has its own serial number. -/
abbrev Line.Distinct (l : Line) : Prop := ((l.txq ++ l.held).map (·.serial)).Nodup

/-- The command is a fault of the sender of this attempt that raises the send tally (R19): a bit fault in the opening bit, in a
dominant tag bit or past the tag; seven equal bits in the stuffed part, but for an own recessive stuff bit of the tag; a form
fault; or an echo fault of a VOCAL station or with a dominant bit in its mark (R10, R11, R13, R14). -/
abbrev State.SenderFaults (s : State) (a : Attempt) (c : Instr) : Prop :=
  (∃ i b, c = .bitFault (.sent i) ∧ s.ownBit a i = some b
      ∧ (b = .tag false ∨ b = .tagStuff false ∨ ∃ l, b = .opening l ∨ b = .pastTag l))
    ∨ (∃ bits, c = .stuffFault (.read bits) ∧ isStuffFault bits = true
      ∧ ¬ (s.ownBit a (bits.length - 1) = some (.tagStuff true) ∧ bits.getLast? = some false))
    ∨ (∃ place, c = .formFault place ∧ place.wf = true ∧ ∀ v, place ≠ .size v)
    ∨ (∃ d, c = .echoFault d ∧ (s.line.state = .vocal ∨ d = true))

/-- The command is a fault past the tag: a bit fault or seven equal bits there, a form fault or an echo fault (R22). -/
abbrev State.FaultsPastTag (s : State) (a : Attempt) (c : Instr) : Prop :=
  (∃ i l, c = .bitFault (.sent i) ∧ s.ownBit a i = some (.pastTag l))
    ∨ (∃ bits l, c = .stuffFault (.read bits) ∧ s.ownBit a (bits.length - 1) = some (.pastTag l))
    ∨ (∃ place, c = .formFault place) ∨ ∃ d, c = .echoFault d

/-! ### What a command has done -/

/-- From the first line interface to the second a parcel was offered: it is queued or held, and was produced since (R24). -/
abbrev Line.Sends (l m : Line) (cls topic : Nat) (payload : List Byte) : Prop :=
  ∃ e ∈ m.txq ++ m.held, l.nextSerial ≤ e.serial ∧ e.cls = cls ∧ e.topic = topic ∧ e.payload = payload

/-- A host command was completed: its record's bytes are freed, the host linger is set at the handling (R43 of section 2.6, as
assumption log entry 15 reads it), and its ANSWER is offered (R30, R35). -/
abbrev State.AnswersHost (s t : State) (r : RxRecord) (o : Answered) (detail : List Byte) : Prop :=
  t.line.rxq = s.line.rxq.tail ∧ t.cmd.linger = some (after r.arrival 3277)
    ∧ s.line.Sends t.line 4 32 (answerPayload r o detail)

/-- The units behind the line interface and the command and notice unit are as they were. -/
abbrev State.UnitsKept (s t : State) : Prop :=
  t.air = s.air ∧ t.meas = s.meas ∧ t.svc = s.svc ∧ t.ho = s.ho ∧ t.pag = s.pag ∧ t.calls = s.calls ∧ t.text = s.text

/-- The parts no command but reset and those of the line changes: the straps, the tallies, the line state and the queue of
commands. -/
abbrev State.LineKept (s t : State) : Prop :=
  t.inReset = s.inReset ∧ t.pending = s.pending ∧ t.line.station = s.line.station ∧ t.line.rate = s.line.rate
    ∧ t.line.sendTally = s.line.sendTally ∧ t.line.listenTally = s.line.listenTally ∧ t.line.state = s.line.state
    ∧ t.line.phase = s.line.phase ∧ t.line.wait = s.line.wait

/-- An attempt at an own parcel was completed: the gap follows its tail tick, the send tally fell and the line state follows it, a
station that is MUTED then waits 8 bits more, the entry is gone, and the counter has reached the tail tick (R7, R20 to R22,
R25). -/
abbrev State.EntrySent (s t : State) (a : Attempt) : Prop :=
  t.line.phase = .idle ∧ t.line.sendTally = s.line.sendTally - 1 ∧ t.line.listenTally = s.line.listenTally
    ∧ t.line.state = deriveLineState (s.line.sendTally - 1) s.line.listenTally
    ∧ t.line.extraWait = (if t.line.state = .muted then 8 else 0) ∧ t.line.wait = .parcel a.tailTick
    ∧ (∀ f ∈ t.line.txq ++ t.line.held, f.serial ≠ a.serial) ∧ t.line.rxq = s.line.rxq ∧ t.now = (s.reach a.tailTick).now

/-- The state of a request once the entry of a serial number was sent: sent, where it is this request's (R25). -/
def ReqState.afterSent (q : ReqState) (serial : Nat) : ReqState := if q = .offered serial then .sent else q

/-- The store record an assembly becomes under a number when it closes (R190, R191). -/
def Assembly.storedAs (a : Assembly) (n : Nat) : StoredText where
  number := n
  originator := a.originator
  stamp := a.stamp
  total := a.total
  mask := pieceMask a.pieces
  complete := a.pieces.length == a.total
  seen := false
  body := joinPieces a.pieces

/-- An own window of this owner, kind and span is in the plan in this state of R55. -/
abbrev State.Plans (t : State) (owner : UnitId) (kind : WinKind) (id : Nat) (start stop : Tick) (st : WinState) : Prop :=
  ∃ w ∈ t.air.plan, w.id = id ∧ w.kind = kind ∧ w.cls = kind.cls ∧ w.owner = owner ∧ w.start = start ∧ w.stop = stop
    ∧ w.state = st

/-- An own window of this owner, kind and span is in the plan OFFERED, its CLAIM queued or held (R53, R63). -/
abbrev State.Offers (t : State) (owner : UnitId) (kind : WinKind) (id : Nat) (start stop : Tick) : Prop :=
  t.Plans owner kind id start stop .offered
    ∧ ∃ e ∈ t.line.txq ++ t.line.held, e.topic = 1 ∧ e.cls = kind.cls ∧ e.span = some (.claim start stop)
      ∧ e.payload = [255, byte id, byte kind.code, 0, 0, 0, 0]

/-- The CLAIMs of the plan's windows are entries made before now (R24). -/
abbrev State.ClaimsPast (s : State) : Prop := ∀ w ∈ s.air.plan, ∀ n, w.claim = some n → n < s.line.nextSerial

/-- What becomes of a request whose window ended before it was sent (R26): its entry is gone, or is being sent and marked for
removal. -/
abbrev State.Retires (s t : State) (q : ReqState) : Prop :=
  ∀ n, q = .offered n → n < s.line.nextSerial → s.line.Distinct →
    ∀ e ∈ t.line.txq ++ t.line.held, e.serial = n → s.line.isBeingSent n = true ∧ e.removal = true

/-- What goes on the line when a window leaves the plan before its end (R67, R68, R71): a STANDING or ACTIVE one is withdrawn; the
CLAIM of an OFFERED one is discarded or removed, or is being sent, marked for removal, and owes its WITHDRAW. -/
abbrev State.Retracts (s t : State) (w : Window) : Prop :=
  (w.state = .standing ∨ w.state = .active → s.line.Sends t.line w.cls 2 [255, byte w.id, 0, 0])
    ∧ ∀ n, w.state = .offered → w.claim = some n → n < s.line.nextSerial → s.line.Distinct →
      (s.line.isBeingSent n = false → ∀ e ∈ t.line.txq ++ t.line.held, e.serial ≠ n)
        ∧ (s.line.isBeingSent n = true → (⟨n, w.id, w.cls⟩ : Owed) ∈ t.air.owed
          ∧ ∀ e ∈ t.line.txq ++ t.line.held, e.serial = n → e.removal = true)

/-- An ACTIVE window is cut: it alone stays in the plan with the new end, and a WITHDRAW of that end is queued or held (R61,
R68, R71). -/
abbrev State.Cuts (s t : State) (w : Window) (by_ : GaveWay) (stop : Tick) : Prop :=
  { w with stop := stop, cut := some by_ } ∈ t.air.plan
    ∧ ∃ e ∈ t.line.txq ++ t.line.held, s.line.nextSerial ≤ e.serial ∧ e.cls = w.cls ∧ e.topic = 2
      ∧ e.payload = [255, byte w.id, 0, 0] ∧ e.span = some (.withdraw (some stop))

/-- A TRAFFIC window of the service controller was placed at a tick: OFFERED, or PLANNED where that tick is more than 32768 ticks
ahead (R62, R63, R117). -/
abbrev State.PlacesChunk (t : State) (id : Nat) (start : Tick) : Prop :=
  if later start (after t.now 32768) = true then t.Plans .service .traffic id start (after start 16384) .planned
  else t.Offers .service .traffic id start (after start 16384)

/-- The entry of an own parcel whose removal was asked for was removed unsent when its attempt failed, and its unit was told (R26).
A HANDOVER-REPORT is then no longer queued or held (R126); a SWITCH-REQ or RETURN-REQ whose window has ended makes the handover unit
ask for a new window, and any other changes nothing (R129, R133); a CLAIM whose window is still OFFERED makes it lapse UNSENT, here
a MEASURE window, whose round is skipped, or a WATCH window, whose watch is missed (R65, R93, R146, R150), and any other owes no
WITHDRAW any longer (R68); every other parcel changes no unit. -/
abbrev State.RemovesUnsent (s t : State) (e : TxEntry) : Prop :=
  (∀ f ∈ t.line.txq ++ t.line.held, f.serial ≠ e.serial)
    ∧ (e.topic ∉ [1, 63, 64, 65] →
      s.UnitsKept t ∧ ∀ f ∈ s.line.txq ++ s.line.held, f.serial ≠ e.serial → f ∈ t.line.txq ++ t.line.held)
    ∧ (e.topic = 63 → t.ho = { s.ho with report := if s.ho.report = some e.serial then none else s.ho.report }
      ∧ t.air = s.air ∧ t.meas = s.meas ∧ t.svc = s.svc ∧ t.pag = s.pag ∧ t.calls = s.calls ∧ t.text = s.text)
    ∧ (e.topic = 64 ∨ e.topic = 65 →
      ((∀ c, s.ho.switch = some c → c.req = .offered e.serial → c.ended = false) → s.UnitsKept t)
      ∧ ∀ c, s.ho.switch = some c → c.req = .offered e.serial → c.ended = true → s.PlanClear →
        later (after s.now 99) c.latest = false →
        ∃ id, t.ho = { s.ho with switch := some { c with window := some id, req := .unbuilt, ended := false } }
          ∧ t.Offers .handover .switch id (after s.now 99) (after (after s.now 99) c.windowLen) ∧ t.svc = s.svc)
    ∧ (e.topic = 1 →
      (s.air.plan.find? (fun v => v.claim == some e.serial && v.state == .offered) = none →
        t.air = { s.air with owed := s.air.owed.filter (·.serial != e.serial) } ∧ t.meas = s.meas ∧ t.svc = s.svc ∧ t.ho = s.ho
          ∧ t.pag = s.pag ∧ t.calls = s.calls ∧ t.text = s.text)
      ∧ ∀ w, s.air.plan.find? (fun v => v.claim == some e.serial && v.state == .offered) = some w →
        (∀ q, w.kind = .measure → s.round? w.id = some q → q.req = .unbuilt → s.svc.state ≠ .scanning →
          t.air = { s.air with plan := s.air.plan.filter (·.id != w.id) }
            ∧ t.meas = { s.meas with rounds := s.meas.rounds.filter (·.id != w.id) } ∧ t.svc = s.svc ∧ t.ho = s.ho
            ∧ t.calls = s.calls ∧ t.text = s.text)
        ∧ ∀ c, w.kind = .watch → w.owner = .paging → s.pag.running = true →
          s.pag.cycles.find? (·.watch == some w.id) = some c → c.status = .waiting →
          t.air = { s.air with plan := s.air.plan.filter (·.id != w.id) } ∧ t.pag.missed = min 255 (s.pag.missed + 1)
            ∧ t.pag.missReason = some .lapsed ∧ t.meas = s.meas ∧ t.svc = s.svc ∧ t.ho = s.ho ∧ t.calls = s.calls
            ∧ t.text = s.text)

/-- The pending notice list holds an entry of this kind (R41). -/
abbrev State.Notes (t : State) (k : NoticeKind) : Prop := t.cmd.notices.any (·.kind == k) = true

/-- The pending notice list tells of an event of this kind with this detail: as its latest one, or as the latest of those that
follow an offered entry (R41). -/
abbrev State.Tells (t : State) (k : NoticeKind) (detail : List Byte) : Prop :=
  ∃ n ∈ t.cmd.notices, n.kind = k ∧ (n.detail = detail ∨ n.followDetail = detail)

/-- A call or text unit's parcel to the transceiver: offered to the send queue, or during a switch the newest of the held uplink
list (R137). -/
abbrev State.Signals (s t : State) (owner : UnitId) (topic : Nat) (fields : List Byte) : Prop :=
  (s.inSwitch = false → s.line.Sends t.line 2 topic (byte s.transceiver :: fields) ∧ t.ho = s.ho)
    ∧ (s.inSwitch = true → t.ho = { s.ho with uplink := s.ho.uplink ++ [⟨owner, topic, byte s.transceiver :: fields⟩] })

/-- A call or text unit's parcels to the transceiver, of these topics and fields: offered to the send queue, or during a switch the
newest of the held uplink list, in this order (R137). -/
abbrev State.SignalsAll (s t : State) (owner : UnitId) (ps : List (Nat × List Byte)) : Prop :=
  (s.inSwitch = false → (∀ p ∈ ps, s.line.Sends t.line 2 p.1 (byte s.transceiver :: p.2)) ∧ t.ho = s.ho)
    ∧ (s.inSwitch = true → t.ho =
      { s.ho with uplink := s.ho.uplink ++ ps.map fun p => ⟨owner, p.1, byte s.transceiver :: p.2⟩ })

/-- The CALL-SIGNAL of a code and cause for a record, without a number (R166). -/
def Call.signalling (k : Call) (code cause : Nat) : Nat × List Byte :=
  (60, [byte code, if k.out then 0 else 1, byte k.transaction, byte cause, 0] ++ fixedDigits [])

/-- Every window of the plan, each of them ACTIVE, is withdrawn: the WITHDRAW of a removal is queued or held (R67, R68). -/
abbrev State.Withdraws (s t : State) : Prop := ∀ w ∈ s.air.plan, s.line.Sends t.line w.cls 2 [255, byte w.id, 0, 0]

/-- There is no peer claim, and the plan is empty or holds one ACTIVE window alone, this one of this unit. -/
abbrev State.PlanOnly (s : State) (owner : UnitId) (id : Option Nat) : Prop :=
  s.air.peers = [] ∧ (s.air.plan = [] ∧ id = none
    ∨ ∃ w, s.air.plan = [w] ∧ id = some w.id ∧ w.owner = owner ∧ w.state = .active ∧ w.kind ≠ .measure)

/-- A neighbour is better than the serving cell in the idle evaluation: it passes the neighbour test, both have a filtered level,
and R_n > R_s, with the idle hysteresis of the mobility state (R101, R109). -/
def State.betterIdle (s : State) (c : Cell) : Bool :=
  match s.serving?.bind (·.level), c.level with
  | some fs, some f =>
    c.neighbourTest s.meas.params
      && decide (fs + 16 * ((match s.svc.mobility with
          | .normal => s.meas.params.hyst
          | .medium => s.meas.params.hyst - s.meas.params.hMed
          | .high => s.meas.params.hyst - s.meas.params.hHigh : Nat) : Int)
        < f - 16 * c.offset - 16 * (c.penalty : Int))
  | _, _ => false

/-- A delay in ticks scaled by the mobility state: the whole of it, three quarters or half, rounded down (R101). -/
def State.scaled (s : State) (n : Nat) : Nat :=
  match s.svc.mobility with
  | .normal => n
  | .medium => n * 3 / 4
  | .high => n / 2

/-- A reselection candidate: better, and better for at least the scaled idle delay (R111). -/
def State.idleCandidate (s : State) (c : Cell) : Bool :=
  s.betterIdle c && decide (s.scaled (s.meas.params.tr * 32768) ≤ elapsed s.now (c.betterSince.getD s.now))

/-- The record stands first of some others by rank, ties going to the lower channel and then the lower beacon code (R110, R111). -/
abbrev Cell.RanksFirst (c : Cell) (cs : List Cell) : Prop :=
  c ∈ cs ∧ ∀ d ∈ cs, d ≠ c → d.rankOr < c.rankOr ∨ d.rankOr = c.rankOr ∧ keyBelow c.key d.key = true

/-- The cells after the classing of an idle evaluation (R109 step 2). -/
def State.classed (s : State) : List Cell :=
  s.meas.cells.map fun d =>
    if d.role = .listed ∨ d.role = .found then
      { d with betterSince := if s.betterIdle d then some (d.betterSince.getD s.now) else none }
    else d

/-- A neighbour's rank is above a threshold: LISTED or FOUND, with a filtered level (R101, R122). -/
def Cell.rankAbove (c : Cell) (e : Int) : Bool :=
  c.neighbour && c.level.any fun f => decide (e < f - 16 * c.offset - 16 * (c.penalty : Int))

/-- The oldest record is a MEASURE-REPORT without samples and flagged last, for a round whose window has ended FULL-TIME: it
completes the round (R92, R93). -/
abbrev State.LastReport (s : State) (r : RxRecord) (q : Round) : Prop :=
  s.Receives 42 r ∧ u8 r.payload 1 ≠ 0 ∧ u8 r.payload 3 = 0 ∧ (u8 r.payload 2).testBit 0 = true
    ∧ s.round? (u8 r.payload 1) = some q ∧ q.lastTaken = false ∧ q.outcome = some .fullTime ∧ q.req = .sent

/-- Such a report for a round whose ordered cells have been reported but for the serving one: it completes the round without a miss
(R94). -/
abbrev State.Completes (s : State) (r : RxRecord) (q : Round) : Prop :=
  s.LastReport r q ∧ ∀ k ∈ q.order.getD [], q.reported.contains k = true ∨ ∀ c, s.cell? k = some c → c.role = .serving

/-- A round ordered this cell and was told no sample of it, and the cell is neither SERVING nor BARRED (R94). -/
def Round.lacks (q : Round) (c : Cell) : Bool :=
  (q.order.getD []).contains c.key && !q.reported.contains c.key && c.role != .serving && c.role != .barred

/-- A record after a miss (R94): its misses raised, or at 4 the values of a LISTED one cleared; none where a FOUND one leaves the
table. -/
def Cell.afterMiss (c : Cell) : Option Cell :=
  if c.misses + 1 < 4 then some { c with misses := c.misses + 1 }
  else if c.role = .listed then
    some { c with level := none, quality := none, samples := 0, betterSince := none, lastSample := none, misses := 0 }
  else none

/-- The weakest FOUND record, which an admission into a full table evicts: the lowest level, an absent one counting lowest, then the
earliest last sample, an absent one counting earliest, then the highest key (R82). -/
abbrev Cell.WeakestOf (x : Cell) (cs : List Cell) : Prop :=
  x ∈ cs ∧ x.role = .found ∧ ∀ d ∈ cs, d.role = .found → d ≠ x →
    levelBelow x.level d.level = true
      ∨ x.level = d.level ∧ (tickBelow x.lastSample d.lastSample = true ∨ x.lastSample = d.lastSample ∧ keyBelow d.key x.key = true)

/-- The service controller and the handover unit were told that the record of a key has left the table: it is a scan candidate and a
member of the reported set no longer (R76, R105, R124). -/
abbrev State.ToldGone (s t : State) (k : CellKey) : Prop :=
  t.svc = { s.svc with scan := s.svc.scan.map fun v => { v with candidates := v.candidates.filter (· != k) } }
    ∧ t.ho.reported = s.ho.reported.filter (· != k) ∧ (k ∉ s.ho.reported → t.ho = s.ho)

/-- The cells after the misses of a completed round (R94). -/
def State.afterMisses (s : State) (q : Round) : List Cell :=
  s.meas.cells.filterMap fun c => if q.lacks c then c.afterMiss else some c

/-- The held uplink list is released: its parcels are offered by their units in the order held, the first of them as the parcel
of this serial number (R24, R137). -/
abbrev State.UplinkReleased (s t : State) (first : Nat) : Prop :=
  ∀ (i : Nat) (u : Uplink), s.ho.uplink[i]? = some u →
    ∃ e ∈ t.line.txq ++ t.line.held, e.serial = first + i ∧ e.owner = u.owner ∧ e.cls = 2 ∧ e.topic = u.topic
      ∧ e.payload = u.payload

/-- A segment was refused for want of this many bytes: it is answered STORE-FULL and told to the host, nothing of it is kept, and
capacity is owed. With less room than a segment needs STORE-AVAILABLE is not due, so that the exchange goes from NONE or DUE to
OWED, with the STORE need lowered, and in AWAITING the refusal is remembered (R119, R193, R194). -/
abbrev State.RefusesSegment (s t : State) (p : List Byte) (need : Nat) : Prop :=
  t.text = { s.text with
      capacityOwed := true
      refusedSince := s.text.refusedSince || s.text.exchange == .awaiting
      exchange := if s.text.exchange = .none ∨ s.text.exchange = .due then .owed else s.text.exchange }
    ∧ s.Signals t .text 62 (fixedDigits (digitsAt p 1) ++ [byte (u8 p 12), byte (u8 p 13), byte (u8 p 14), 2])
    ∧ (s.enabled .storeFull = true → t.Tells .storeFull (bytes2 need ++ bytes2 s.text.room ++ [byte s.text.occupied]))
    ∧ (s.text.exchange ≠ .due → t.svc = s.svc)
    ∧ (s.text.exchange = .due → s.svc.needStore = true → t.svc = { s.svc with
        needStore := false
        traffic := { s.svc.traffic with
          close := if s.svc.state = .linked ∧ s.svc.needCall = false ∧ s.svc.needPage = none ∧ s.svc.needText = false then
            some (after s.now 65536) else s.svc.traffic.close } })
    ∧ t.air = s.air ∧ t.meas = s.meas ∧ t.pag = s.pag ∧ t.calls = s.calls

/-- The text unit with a record stored (R191, R192, R197): numbered, at the end of the store, under the unread cursor if that was at
END; a pending read then reads it at its offset, so that it is seen and the cursor is at END again; and the half flag is SPENT above
2048 used bytes. -/
def Text.stores (x : Text) (y : StoredText) : Text :=
  let x : Text := { x with counter := y.number, halfArmed := x.halfArmed && decide (x.used + 24 + y.body.length ≤ 2048) }
  match x.pendingRead, x.unread with
  | some p, none =>
    { x with
      store := x.store ++ [{ y with seen := true }]
      pendingRead := none
      readCursor := some (y.number, if p.offset = 65535 then 0 else p.offset + ((y.body.drop p.offset).take 48).length) }
  | _, u => { x with store := x.store ++ [y], unread := some (u.getD y.number) }

/-- A pending read was answered with a stored record: its TEXT-HEAD, or the TEXT-DATA of its offset, under its reference (R196,
R197). -/
abbrev State.ServesRead (s t : State) (y : StoredText) : Prop :=
  ∀ p, s.text.pendingRead = some p →
    (p.offset = 65535 → s.line.Sends t.line 7 38 (textHead s.host p.reference y))
      ∧ (p.offset ≠ 65535 → s.line.Sends t.line 7 39
        ([byte s.host, byte p.reference] ++ bytes2 y.number ++ bytes2 p.offset
          ++ [if y.body.length ≤ p.offset + ((y.body.drop p.offset).take 48).length then 1 else 0]
          ++ (y.body.drop p.offset).take 48))

/-- A record can be stored for a pending read: there is none, or the unread cursor is at END and the store has room for a number that
none of its records has (R188, R191, R197). -/
abbrev Text.ReadyToStore (x : Text) : Prop := x.pendingRead = none ∨ x.unread = none ∧ x.store.length ≤ 32

/-- The test whether STORE-AVAILABLE is due leaves the exchange where it is (R194). -/
def Text.steady (x : Text) : Bool :=
  (x.exchange != .owed && x.exchange != .due) || (x.exchange == .owed && !x.availDue) || (x.exchange == .due && x.availDue)

/-- The test finds STORE-AVAILABLE due that was only owed (R194). -/
def Text.turnsDue (x : Text) : Bool := x.exchange == .owed && x.availDue

/-- From a text unit whose counts have changed, the test of R194 is made at a tick: the exchange stays; or it goes from OWED to DUE
with the STORE need raised, and in a connection on to AWAITING (R195); or from DUE back to OWED with the need lowered, which starts
the close tick in LINKED where no other need is left (R119). -/
abbrev State.TestsAvail (s t : State) (x : Text) (now : Tick) : Prop :=
  (x.steady = true → t.text = x ∧ t.svc = s.svc)
    ∧ (x.turnsDue = true → t.svc = { s.svc with needStore := true, traffic := { s.svc.traffic with close := none } }
      ∧ t.text = if s.connected = true then
          { x with exchange := .awaiting, refusedSince := false, ackWait := startTimer now x.timersHeld 327680 }
        else { x with exchange := .due })
    ∧ (x.exchange = .due → x.availDue = false → t.text = { x with exchange := .owed }
      ∧ (s.svc.needStore = true → t.svc = { s.svc with
          needStore := false
          traffic := { s.svc.traffic with
            close := if s.svc.state = .linked ∧ s.svc.needCall = false ∧ s.svc.needPage = none ∧ s.svc.needText = false then
              some (after now 65536) else s.svc.traffic.close } }))

/-- A segment was answered OK under an originator field, and a STORE-AVAILABLE that this made due followed (R188, R194, R195). -/
abbrev State.Receipts (s t : State) (p originator : List Byte) (x : Text) : Prop :=
  s.SignalsAll t .text
    ((62, originator ++ [byte (u8 p 12), byte (u8 p 13), byte (u8 p 14), 0]) :: if x.turnsDue = true then [(59, [])] else [])

/-- A held timer runs again, its deadline this tick plus its remaining ticks (R138). -/
def Timer.resumedAt (now : Tick) : Timer → Timer
  | .held n => .running (after now n)
  | t => t

/-- The call and text timers are resumed: no record of either unit changes but in its timer, where no call is DIALING, no text
QUEUED, and so no signal goes out (R138). -/
abbrev State.TimersResumed (s t : State) : Prop :=
  t.calls.timersHeld = false ∧ t.text.timersHeld = false ∧ t.text.ackWait = s.text.ackWait.resumedAt s.now
    ∧ ((∀ c ∈ s.calls.table, c.state ≠ .dialing) →
      t.calls = { s.calls with
        timersHeld := false, table := s.calls.table.map fun c => { c with timer := c.timer.resumedAt s.now } })
    ∧ ((∀ o ∈ s.text.outbound, o.state ≠ .queued) →
      t.text = { s.text with
        timersHeld := false, ackWait := s.text.ackWait.resumedAt s.now
        outbound := s.text.outbound.map fun o => { o with wait := o.wait.resumedAt s.now } })

/-! ### Invariants -/

/-- The tallies are in their ranges, and the line state is the one they give (R19 to R21). -/
abbrev State.TalliesHold (s : State) : Prop :=
  s.line.state = deriveLineState s.line.sendTally s.line.listenTally ∧ s.line.sendTally ≤ 197 ∧ s.line.listenTally ≤ 127

/-- The SETUP record was one that SETUP accepts, and there is none in reset; the straps are in their ranges (R1, R31, R33). -/
abbrev State.SetupHolds (s : State) : Prop :=
  (s.inReset = true → s.cmd.setup = none) ∧ s.line.station ≤ 15 ∧ s.line.rate ≤ 3
    ∧ ∀ c, s.cmd.setup = some c → c.bad s.line.station = false ∧ 4 ≤ c.settle ∧ c.settle ≤ 9

/-- The reception queue holds at most its 640 bytes (R29). -/
abbrev State.RingHolds (s : State) : Prop := rxUsed s.line.rxq ≤ 640

/-- The peer claim list holds at most 24 claims, each with its own key (R69). -/
abbrev State.PeersHold (s : State) : Prop :=
  s.air.peers.length ≤ 24 ∧ (s.air.peers.map fun c => (c.station, c.id)).Nodup

/-- The call table holds at most four records (R162). -/
abbrev State.CallsHold (s : State) : Prop := s.calls.table.length ≤ 4

/-- The text store's used and reserved bytes are at most its 4096, and no two assemblies share a key (R185, R188). -/
abbrev State.StoreHolds (s : State) : Prop :=
  s.text.used + s.text.reserved ≤ 4096 ∧ (s.text.assemblies.map fun a => (a.originator, a.reference, a.total)).Nodup

/-- The cell table holds at most 16 records, each with its own key and at most one SERVING, and no barring gives that role back
(R75, R76, R85). -/
abbrev State.CellsHold (s : State) : Prop :=
  s.meas.cells.length ≤ 16 ∧ (s.meas.cells.map (·.key)).Nodup
    ∧ (s.meas.cells.filter (·.role == .serving)).length ≤ 1 ∧ ∀ c ∈ s.meas.cells, c.before ≠ some .serving

/-- The airtime plan holds at most 8 windows, no two of which overlap (R53); windows, and the one a switch asks for, are shorter
than 2^30 ticks, as every window the part asks for is (R102, R106, R115, R117, R127, R133, R143, R144, R149). -/
abbrev State.PlanHolds (s : State) : Prop :=
  s.air.plan.length ≤ 8 ∧ s.air.plan.Pairwise (fun v w => overlap v.start v.stop w.start w.stop = false)
    ∧ (∀ w ∈ s.air.plan, elapsed w.stop w.start < 2 ^ 30) ∧ ∀ c, s.ho.switch = some c → c.ticks < 2 ^ 30

/-- At this tick no ACTIVE window has run past its end, and none that is STANDING: the commands come in the order of their ticks
(R66; assumption log, entry 2). -/
abbrev State.PlanTimely (s : State) (now : Tick) : Prop :=
  ∀ w ∈ s.air.plan,
    (w.state = .active → elapsed now w.start ≤ elapsed w.stop w.start)
      ∧ (w.state = .standing → later w.start now = true ∨ elapsed now w.start ≤ elapsed w.stop w.start)

end Sys2Proof.Machine

namespace Sys2Proof

/-- Commands that reset the part (R31). -/
def Instr.resets : Instr → Bool
  | .resetAssert => true
  | .resetRelease _ _ => true
  | _ => false

end Sys2Proof
end

