-- ==== Sys2Proof/Certificates/Slice0/Obligations.lean ====
section
/-! DEFINITION. The statements for the provers, from the numbered rules of the manual. -/

open Sys2Proof Sys2Proof.Machine

/-! ### One step -/

/-- A step runs the command at the front of the queue on the state with the queue's rest; with none waiting and RESET_N high,
the counter rises by one (R46) and, but for the queue, only the counter, the bit times still to pass before the line is idle and
the count of free values change (R15, R18; assumption log, entries 5 and 10: the model's choice). -/
def Obligations.StepRunsFrontCommand : Prop :=
  (∀ (s : State) (c : Instr) (rest : List Instr), s.pending = c :: rest → step s = exec c { s with pending := rest })
    ∧ ∀ s : State, s.pending = [] → s.inReset = false →
      ∃ t, step s = .next t ∧ t.air = { s.air with now := s.air.now + 1 } ∧ t.meas = s.meas ∧ t.svc = s.svc ∧ t.ho = s.ho
        ∧ t.pag = s.pag ∧ t.calls = s.calls ∧ t.text = s.text ∧ t.cmd = s.cmd
        ∧ t.line = { s.line with wait := s.line.wait.spend s.line.rate (s.air.now + 1) } ∧ t.agenda = s.agenda ∧ t.inReset = false

/-! ### Whole-machine rules -/

/-- Every parcel survives the line: reading the stuffed part that R3 to R5 give it, with its stuff bits and its check, gives the
parcel again. -/
def Obligations.LineReadsWhatItSends : Prop := ∀ p : Parcel, p.wf = true → unwire (wire p) = .parcel p

/-- Every command keeps the tallies in their ranges and the line state as R21 derives it. -/
def Obligations.TalliesHoldAfterEveryStep : Prop :=
  ∀ s t : State, s.TalliesHold → step s = .next t → t.TalliesHold

/-- Every step keeps the SETUP record one that R33 accepts, with its settle exponent in 4 to 9, and the straps in range; and no
command but SETUP and hard reset changes the record (R33, R34, R44). -/
def Obligations.SetupHoldsAfterEveryStep : Prop :=
  (∀ s t : State, s.SetupHolds → step s = .next t → t.SetupHolds)
    ∧ ∀ (c : Instr) (s t : State), c ≠ .setup → c ≠ .resetAssert → exec c s = .next t → t.cmd.setup = s.cmd.setup

/-- Every command keeps each bounded table in its bounds: the records of the reception queue within its 640 bytes (R29), at most
24 peer claims with distinct keys (R69), at most four call records (R162), used and reserved bytes of the text store at most
4096 and assemblies with distinct keys (R185, R188), and at most 16 cell records with distinct keys, of which at most one is
SERVING (R75, R76). -/
def Obligations.RingHoldsAfterEveryStep : Prop :=
  (∀ s t : State, s.RingHolds → step s = .next t → t.RingHolds)
    ∧ (∀ s t : State, s.PeersHold → step s = .next t → t.PeersHold)
    ∧ (∀ s t : State, s.CallsHold → step s = .next t → t.CallsHold)
    ∧ (∀ s t : State, s.StoreHolds → step s = .next t → t.StoreHolds)
    ∧ ∀ s t : State, s.CellsHold → step s = .next t → t.CellsHold

/-- The state after a hard reset meets the invariants: the tallies and the line state (R21), the SETUP record (R33, R44), the
reception queue (R29), and the peer claims, call table, text store, cell table and airtime plan (R53, R69, R76, R162, R185). -/
def Obligations.ResetMeetsInvariants : Prop :=
  State.reset.TalliesHold ∧ State.reset.SetupHolds ∧ State.reset.RingHolds ∧ State.reset.PeersHold ∧ State.reset.CallsHold
    ∧ State.reset.StoreHolds ∧ State.reset.CellsHold ∧ State.reset.PlanHolds ∧ ∀ now, State.reset.PlanTimely now

/-- The tick counter never goes back but at a hard reset (R46, R47); and while its commands come in the order of their ticks, so
that no window has run past its end, every step keeps the airtime plan at 8 windows or fewer, no two of which overlap (R53, R57
to R62, R71). -/
def Obligations.CounterNeverGoesBack : Prop :=
  (∀ (c : Instr) (s t : State), c.resets = false → exec c s = .next t →
    t.air.now = s.air.now ∨ later t.air.now s.air.now = true)
  ∧ ∀ s t : State, s.PlanHolds → step s = .next t → s.PlanTimely t.air.now → t.PlanHolds

/-- A DETACHED station sends and receives nothing, and only a hard reset or RECOVERY_COMPLETE ends that: every other command
leaves the line state, the tallies and the line's phase as they are, or begins to join afresh, and adds no record to the
reception queue (R21, R23). -/
def Obligations.DetachedUntilRecovery : Prop :=
  ∀ (c : Instr) (s t : State), c ≠ .resetAssert → c ≠ .recoveryComplete → s.line.state = .detached → exec c s = .next t →
    t.line.state = .detached ∧ t.line.sendTally = s.line.sendTally ∧ t.line.listenTally = s.line.listenTally
      ∧ (t.line.phase = s.line.phase ∨ t.line.phase = .idle) ∧ (t.line.rxq = s.line.rxq ∨ t.line.rxq = s.line.rxq.tail)

/-! ### Host commands and discarded parcels -/

/-- A host command that fails the checks of R36 is answered with the first of them, its record completed and the host linger
set, and no unit changes. -/
def Obligations.RefusedCommandsChangeNothing : Prop :=
  ∀ (topic : Nat) (c : Instr) (s : State) (r : RxRecord), isHostTopic topic = true → topicCommand topic = some c →
    s.Front topic r →
    (isShort topic r.payload = true → ∃ t, exec c s = .next t ∧ s.AnswersHost t r .value [] ∧ s.UnitsKept t ∧ s.LineKept t)
      ∧ (isShort topic r.payload = false → s.svc.state = .unset → takenUnset topic = false →
        ∃ t, exec c s = .next t ∧ s.AnswersHost t r .unset [] ∧ s.UnitsKept t ∧ s.LineKept t)
      ∧ (isShort topic r.payload = false → s.svc.state = .shelved → takenShelved topic = false →
        ∃ t, exec c s = .next t ∧ s.AnswersHost t r .shelved [] ∧ s.UnitsKept t ∧ s.LineKept t)

/-- A transceiver or peer parcel that is short or malformed is discarded whole: its record is completed, and nothing else
changes (R207, R208). -/
def Obligations.ShortAndMalformedAreDiscarded : Prop :=
  ∀ (topic : Nat) (c : Instr) (s : State) (r : RxRecord), isHostTopic topic = false → topicCommand topic = some c →
    s.Front topic r → (isShort topic r.payload = true ∨ isMalformed topic r.payload = true) →
    exec c s = .next { s with line := { s.line with rxq := s.line.rxq.tail } }

/-! ### Reset, settling and joining -/

/-- RESET_ASSERT gives every piece of state its hard-reset value, but for the model's own queue of commands and count of free
values (R31). Station 0, line rate code 0, power SETTLING and no settle end while RESET_N is low are the model's choice (assumption
log, entry 1), and so are the reset values of the fields the manual does not name, which are the model's own (entry 31). -/
def Obligations.ResetAssertResetsEverything : Prop :=
  ∀ s : State, exec .resetAssert s = .next { State.reset with freeCount := s.freeCount, pending := s.pending }

/-- The part comes up: at reset release the straps are read, the counter counts from 0 and the settle wait of 512 ticks begins;
at its end the part is AWAKE, not yet joined; and the fourteenth recessive bit joins it (R1, R2, R31, R46, R152). -/
def Obligations.StartUp : Prop :=
  (∀ (stn : BitVec 4) (rate : BitVec 2) (s : State), s.inReset = true →
    exec (.resetRelease stn rate) s = .next
      { s with
        inReset := false
        line := { s.line with station := stn.toNat, rate := rate.toNat }
        air := { s.air with now := 0 }
        pag := { s.pag with power := .settling, settleEnd := some 512 } })
  ∧ (∀ (s : State) (t : Tick), s.Settled → s.pag.power = .settling → s.pag.settleEnd = some t →
    exec .settleEnd s = .next
      { s.reach t with
        pag := { s.pag with power := .awake, settleEnd := none }
        line := { s.line with joined := false, joinCount := 0, phase := .idle, wait := .idle } })
  ∧ ∀ s : State, s.Ready → s.line.joined = false →
    exec .joinComplete s = .next
      { s with line :=
        { s.line with joined := true, joinCount := 14, ownHoldoffs := 0, phase := .idle, wait := .idle } }

/-! ### Sending -/

/-- SEND_OPPORTUNITY starts the head of the queue: the bits sent are those of R3 to R5 for its payload, with the offsets of a
CLAIM or WITHDRAW written for the tail tick of this attempt (R27); the entry keeps its place, and any extra wait is over (R8, R22,
R24). The line is idle once the recessive bits in a row make up the gap, with the delimiter before it after a mark or holdoff, and
the bit times since the last event can have passed; a MUTED station waits its extra bits on top; and a station that waits for the
gap's end alone takes another's opening bit in gap bit 3 or 4 as its own (R7, R8, R15, R18, R22). Where the part is sending or
receiving, or the recessive bits do not suffice, nothing is started. Where some tail tick agrees with the offsets written from it,
the earliest such is used. That tick, the nominal clocks and how the bits between two line events are counted are the model's
choice (assumption log, entries 6, 10 and 30). -/
def Obligations.SendOpportunityStartsHead : Prop :=
  (∀ (tick : Tick) (frac quiet : Nat) (taken : Bool) (s : State) (e : TxEntry) (q : List TxEntry), s.OnLine →
    s.line.txq = e :: q → s.line.phase.free = true → frac < 15625 →
    ((s.line.wait.need + (if s.line.state = .vocal then 0 else s.line.extraWait) ≤ quiet
        ∧ s.line.wait.passed s.line.wait.bits s.line.rate (s.reach tick).now frac = true)
      ∨ (taken = true ∧ (s.line.state = .vocal ∨ s.line.extraWait = 0) ∧ 4 ≤ s.line.wait.bits ∧ s.line.wait.need ≤ quiet + 2
        ∧ s.line.wait.passed (s.line.wait.bits - 2) s.line.rate (s.reach tick).now frac = true)) →
    ∃ (t : State) (a : Attempt), exec (.sendOpportunity tick frac ⟨quiet, taken⟩) s = .next t ∧ t.line.phase = .sending a
      ∧ a.serial = e.serial ∧ a.openTick = (s.reach tick).air.now
      ∧ a.bits = wire (s.line.parcel { e with payload := writtenPayload e a.tailTick })
      ∧ (∀ u, s.line.agreedTail e (s.reach tick).air.now frac = some u → a.tailTick = u)
      ∧ t.line.txq = s.line.txq.map (fun f =>
        if f.serial == e.serial then { e with payload := writtenPayload e a.tailTick } else f)
      ∧ t.line = { s.line with phase := t.line.phase, wait := .idle, txq := t.line.txq, extraWait := 0, ownHoldoffs := 0 }
      ∧ t.air = (s.reach tick).air ∧ t.cmd = s.cmd ∧ t.meas = s.meas ∧ t.svc = s.svc ∧ t.ho = s.ho ∧ t.pag = s.pag
      ∧ t.calls = s.calls ∧ t.text = s.text)
  ∧ ∀ (tick : Tick) (frac quiet : Nat) (taken : Bool) (s : State), s.Ready →
    (s.line.joined = false ∨ s.line.state = .detached ∨ s.line.phase.free = false ∨ quiet + 2 < s.line.wait.need
      ∨ (taken = false ∧ quiet < s.line.wait.need)
      ∨ (s.line.state = .muted ∧ 0 < s.line.extraWait ∧ quiet < s.line.wait.need + s.line.extraWait)) →
    exec (.sendOpportunity tick frac ⟨quiet, taken⟩) s = .next s

/-! ### Faults and tallies -/

/-- A sender's fault raises the send tally by 6 at the bit of detection, the line state is derived afresh, the part's own mark
follows, loud for a station VOCAL before it, and the parcel stays in the queue, unless its removal was asked for: then it leaves
unsent, and its unit is told (R10, R11, R13 to R16, R19, R21, R26). The faults are a bit fault in the opening bit, in a dominant
tag bit or past the tag; seven equal bits in the stuffed part, but for an own recessive stuff bit of the tag; a form fault; and an
echo fault of a VOCAL station or with a dominant bit in its mark, which for a MUTED station is known, and raises the tally, only
at the mark's end. Past the tag the station then waits 8 bits more for as long as it is MUTED (R22). A CLAIM removed unsent makes
its window lapse, here a MEASURE window, whose round is skipped, or a WATCH window, whose watch is missed with reason LAPSED; it
owes no WITHDRAW any longer where the window is gone (R65, R68, R93, R150). A HANDOVER-REPORT is then no longer queued or held
(R126), and a SWITCH-REQ or RETURN-REQ whose window has ended makes the handover unit ask for a new one (R129, R133). That a bit
fault in the opening bit or in a dominant tag or tag stuff bit raises the tally, and that the mark's kind is that of the state
before the rise, are the model's reading (assumption log, entries 11 and 27). -/
def Obligations.SenderFaultsRaiseTheSendTally : Prop :=
  ∀ (s : State) (a : Attempt) (e : TxEntry) (c : Instr), s.OnLine → s.line.phase = .sending a →
    s.line.entry? a.serial = some e →
    (e.removal = true → (∀ f ∈ s.line.held, f.serial ≠ a.serial) ∧ a.serial < s.line.nextSerial) → s.SenderFaults a c →
    ∃ t, exec c s = .next t ∧ t.line.sendTally = s.line.sendTally + 6 ∧ t.line.listenTally = s.line.listenTally
      ∧ t.line.state = deriveLineState (s.line.sendTally + 6) s.line.listenTally
      ∧ t.line.phase = .marked (s.line.state == .vocal) true 0 ∧ t.line.wait = .mark s.now
      ∧ (s.FaultsPastTag a c → t.line.extraWait = 8) ∧ t.line.rxq = s.line.rxq
      ∧ (e.removal = false → (∀ f ∈ s.line.txq ++ s.line.held, f ∈ t.line.txq ++ t.line.held) ∧ s.UnitsKept t)
      ∧ (e.removal = true → s.RemovesUnsent t e)

/-- A sender that raises no tally: one that loses arbitration at a tag bit it sends recessive goes on as a receiver, its entry
still queued (R9); and two faults of a sender raise none, its own recessive stuff bit of the tag read dominant, be it the seventh
equal bit or not, and an echo fault of a MUTED station with no dominant bit in its mark, which waits 8 bits more (R11, R19,
R22). An entry whose removal was asked for leaves unsent at each of them (R26). -/
def Obligations.SendersWithoutARise : Prop :=
  ∀ (s : State) (a : Attempt) (e : TxEntry), s.OnLine → s.line.phase = .sending a →
    s.line.entry? a.serial = some e →
    (e.removal = false →
      (∀ bit : Nat, bit < 14 → (s.line.tag e).testBit (13 - bit) = true →
        exec (.arbitrationLost bit) s = .next { s with line := { s.line with phase := .receiving } })
      ∧ (∀ i, s.ownBit a i = some (.tagStuff true) →
        exec (.stuffFault (.ownTag i)) s = .next
          { s with line := { s.line with phase := .marked (s.line.state == .vocal) true 0, wait := .mark s.now } })
      ∧ (∀ bits, isStuffFault bits = true → s.ownBit a (bits.length - 1) = some (.tagStuff true) →
        bits.getLast? = some false →
        exec (.stuffFault (.read bits)) s = .next
          { s with line := { s.line with phase := .marked (s.line.state == .vocal) true 0, wait := .mark s.now } })
      ∧ (s.line.state = .muted →
        exec (.echoFault false) s = .next
          { s with line := { s.line with phase := .marked false true 0, wait := .mark s.now, extraWait := 8 } }))
    ∧ (e.removal = true → (∀ f ∈ s.line.held, f.serial ≠ a.serial) → a.serial < s.line.nextSerial →
      ∀ (c : Instr) (p : LinePhase) (w : LineWait) (n : Nat),
        ((∃ bit, c = .arbitrationLost bit ∧ bit < 14 ∧ (s.line.tag e).testBit (13 - bit) = true ∧ p = .receiving
            ∧ w = s.line.wait ∧ n = s.line.extraWait)
          ∨ (∃ i, c = .stuffFault (.ownTag i) ∧ s.ownBit a i = some (.tagStuff true)
            ∧ p = .marked (s.line.state == .vocal) true 0 ∧ w = .mark s.now ∧ n = s.line.extraWait)
          ∨ (∃ bits, c = .stuffFault (.read bits) ∧ isStuffFault bits = true
            ∧ s.ownBit a (bits.length - 1) = some (.tagStuff true) ∧ bits.getLast? = some false
            ∧ p = .marked (s.line.state == .vocal) true 0 ∧ w = .mark s.now ∧ n = s.line.extraWait)
          ∨ (c = .echoFault false ∧ s.line.state = .muted ∧ p = .marked false true 0 ∧ w = .mark s.now ∧ n = 8)) →
        ∃ t, exec c s = .next t ∧ t.line.phase = p ∧ t.line.wait = w ∧ t.line.extraWait = n
          ∧ t.line.sendTally = s.line.sendTally ∧ t.line.listenTally = s.line.listenTally ∧ t.line.state = s.line.state
          ∧ t.line.rxq = s.line.rxq ∧ s.RemovesUnsent t e)

/-- A receiver's fault raises the listen tally by 1, to 127 at most, and its own mark follows (R5, R11 to R13, R15, R19). The
faults are seven equal bits in the stuffed part, a check that differs, a dominant level in a delimiter or the tail, and a size of 65
to 127. Seven equal bits are no stuff fault, of a sender or a receiver, where the bits read do not begin with a dominant opening
bit, or where the seventh follows the stuffed part of a whole parcel: its delimiters, echo slot, tail and gap are not counted (R4,
R11). -/
def Obligations.ReceiverFaultsRaiseTheListenTally : Prop :=
  (∀ (s : State) (c : Instr), s.OnLine → s.line.phase.notSending = true →
    ((∃ bits, c = .stuffFault (.read bits) ∧ isStuffFault bits = true)
      ∨ (∃ bits, c = .checkFault bits ∧ unwire bits = .checkFault)
      ∨ (∃ place, c = .formFault place ∧ place.wf = true)) →
    ∃ t, exec c s = .next t ∧ t.line.sendTally = s.line.sendTally ∧ t.line.listenTally = min 127 (s.line.listenTally + 1)
      ∧ t.line.state = deriveLineState s.line.sendTally (min 127 (s.line.listenTally + 1))
      ∧ (∃ loud, t.line.phase = .marked loud false 0) ∧ t.line.wait = .mark s.now ∧ t.line.extraWait = 0
      ∧ t.line.rxq = s.line.rxq ∧ s.UnitsKept t)
  ∧ (∀ (s : State) (bits : List Bool), s.OnLine → bits.head? ≠ some false ∨ unstuff bits ≠ .sevenEqual 0 →
    exec (.stuffFault (.read bits)) s = .next s)
  ∧ ∀ (s : State) (p : Parcel) (rest : List Bool), s.OnLine → p.wf = true →
    exec (.stuffFault (.read (wire p ++ rest))) s = .next s

/-- The tallies after an own mark (R19): a bit fault in the own loud mark raises the tally of the part's role by 6, and the mark
goes on as it was, not begun anew (R15 as assumption log entry 12 reads it). In the run of dominant bits after the mark, the
first raises a receiver's listen tally by 6; then the 15th and every eighth after it of a loud mark, and the 9th and every
eighth after it of a quiet one, however long the run, raise the tally of the part's role by 6, and no other; and each begins the
wait for a delimiter of recessive bits again (R15). A station MUTED by such a rise keeps the extra wait that its attempt set
(R22). -/
def Obligations.DominantBitsAfterTheMarkRaiseTallies : Prop :=
  (∀ (s : State) (sender : Bool) (run : Nat), s.OnLine → s.line.phase = .marked true sender run →
    ∃ t, exec (.bitFault .mark) s = .next t ∧ t.line.phase = s.line.phase ∧ t.line.wait = s.line.wait ∧ s.UnitsKept t
      ∧ t.line.rxq = s.line.rxq ∧ (t.line.state = .muted → t.line.extraWait = s.line.extraWait)
      ∧ t.line.sendTally = s.line.sendTally + (if sender then 6 else 0)
      ∧ t.line.listenTally = (if sender then s.line.listenTally else min 127 (s.line.listenTally + 6)))
  ∧ ∀ (s : State) (loud sender : Bool) (run n : Nat), s.OnLine → s.line.phase = .marked loud sender run → run < n →
    ∃ t, exec (.dominantAfterSpoilMark n) s = .next t ∧ t.line.phase = .marked loud sender n
      ∧ t.line.wait = .delimiter s.now ∧ s.UnitsKept t ∧ t.line.rxq = s.line.rxq
      ∧ (t.line.state = .muted → t.line.extraWait = s.line.extraWait)
      ∧ (t.line.sendTally = s.line.sendTally + 6 ↔ sender = true ∧ ∃ k, n = (if loud then 15 else 9) + 8 * k)
      ∧ (t.line.sendTally = s.line.sendTally ∨ t.line.sendTally = s.line.sendTally + 6)
      ∧ (sender = false → (n = 1 ∨ ∃ k, n = (if loud then 15 else 9) + 8 * k) →
        t.line.listenTally = min 127 (s.line.listenTally + 6))
      ∧ ((sender = true ∨ ¬ (n = 1 ∨ ∃ k, n = (if loud then 15 else 9) + 8 * k)) → t.line.listenTally = s.line.listenTally)

/-- RECOVERY_COMPLETE: a DETACHED station clears both tallies and is VOCAL, and the line is idle (R21, R23). -/
def Obligations.RecoveryClearsTheTallies : Prop :=
  ∀ s : State, s.Ready → s.line.state = .detached →
    ∃ t, exec .recoveryComplete s = .next t ∧ t.line.sendTally = 0 ∧ t.line.listenTally = 0 ∧ t.line.state = .vocal
      ∧ t.line.phase = .idle ∧ t.line.wait = .idle
      ∧ (∀ f ∈ s.line.txq ++ s.line.held, f ∈ t.line.txq ++ t.line.held) ∧ t.line.rxq = s.line.rxq ∧ s.UnitsKept t
      ∧ (s.enabled .lineState = true → t.cmd.notices.any (·.kind == .lineState) = true)

/-! ### Holdoffs and receiving -/

/-- At the first bit of a gap a holdoff is sent with fewer than 72 free bytes, unless the two gaps before began with one; a gap has
one first bit. Another station's dominant level is answered in the fifth tail bit of the parcel just complete and in bits 1 and 2
of any gap: after a parcel they follow no or one recessive bit, and after a mark or holdoff the seven of the delimiter as well; so
a level read in the gap that the part's own holdoff began, before a delimiter, is not answered and leaves the count of own
holdoffs (R7, R17, R18). That the bits between two line events are told by an operand is the model's choice (assumption log,
entry 10). -/
def Obligations.Holdoffs : Prop :=
  (∀ s : State, s.OnLine → s.line.phase.free = true → s.line.wait.gap = true →
    exec .ownHoldoff s = .next
      (if s.line.rxFree < 72 ∧ s.line.ownHoldoffs < 2 then
        { s with line :=
          { s.line with ownHoldoffs := s.line.ownHoldoffs + 1, phase := .holdoff, wait := .mark s.now } }
      else { s with line := { s.line with ownHoldoffs := 0, wait := { s.line.wait with gap := false } } }))
  ∧ (∀ s : State, s.Ready → s.line.wait.gap = false → exec .ownHoldoff s = .next s)
  ∧ (∀ (s : State) (g : HoldoffAt), s.OnLine → s.line.phase.free = true →
    (g = .tail ∧ s.line.wait.bits = 4 ∧ s.line.wait.gap = true)
      ∨ (∃ n quiet, g = .gap n quiet ∧ 1 ≤ n ∧ n ≤ 2
        ∧ (s.line.wait.bits = 4 ∧ quiet + 1 = n ∨ 11 ≤ s.line.wait.bits ∧ quiet = n + 6)) →
    exec (.holdoffAnswer g) s = .next
      { s with line := { s.line with ownHoldoffs := 0, phase := .holdoff, wait := .mark s.now } })
  ∧ ∀ (s : State) (g : HoldoffAt), s.Ready → 11 ≤ s.line.wait.bits → (∀ n quiet, g = .gap n quiet → quiet < 7) →
    exec (.holdoffAnswer g) s = .next s

/-- PARCEL_RECEIVED: the listen tally falls, and an accepted parcel joins the reception queue as its newest record if the ring has
room for its payload and 2 bytes; without room it is dropped and RECEIVE-OVERRUN recorded if enabled; one not accepted changes
nothing more (R7, R20, R28, R29). -/
def Obligations.ReceivedParcelsAreQueued : Prop :=
  ∀ (arrival : Tick) (p : Parcel) (s : State), s.OnLine → s.line.phase.notSending = true → p.wf = true →
    ∃ t, exec (.parcelReceived arrival p) s = .next t
      ∧ t.line.rxq = (if s.accepts p.topic.toNat p.source.toNat p.payload ∧ p.payload.length + 2 ≤ 640 - rxUsed s.line.rxq
        then s.line.rxq ++ [recordOf p arrival] else s.line.rxq)
      ∧ (s.accepts p.topic.toNat p.source.toNat p.payload = true → 640 - rxUsed s.line.rxq < p.payload.length + 2 →
        s.enabled .receiveOverrun = true → t.cmd.notices.any (·.kind == .receiveOverrun) = true)
      ∧ t.line.sendTally = s.line.sendTally
      ∧ t.line.listenTally = (if 95 < s.line.listenTally then 90 else s.line.listenTally - 1)
      ∧ t.line.state = deriveLineState s.line.sendTally t.line.listenTally ∧ t.line.phase = .idle
      ∧ t.line.wait = .parcel arrival ∧ t.line.extraWait = 0 ∧ t.line.ownHoldoffs = 0
      ∧ (∀ f ∈ s.line.txq ++ s.line.held, f ∈ t.line.txq ++ t.line.held)
      ∧ t.air = (s.reach arrival).air ∧ t.meas = s.meas ∧ t.svc = s.svc ∧ t.ho = s.ho ∧ t.pag = s.pag ∧ t.calls = s.calls
      ∧ t.text = s.text

/-! ### Own windows -/

/-- CLAIM_OFFER: the CLAIM of a PLANNED window is offered at the window's class, with its id and kind and its offsets left for
the attempt, and the window is OFFERED; every other entry of the send path stays (R24, R27, R63). -/
def Obligations.ClaimOfferedAtItsTick : Prop :=
  ∀ (id : Nat) (s : State) (w : Window), s.Ready → s.windowIn id .planned = some w →
    ∃ t, exec (.claimOffer id) s = .next t
      ∧ t.air = { (s.reach (before w.start 32768)).air with
          plan := s.air.plan.map fun v =>
            if v.id == id then { v with state := .offered, claim := some s.line.nextSerial } else v }
      ∧ (⟨s.line.nextSerial, .airtime, w.cls, 1, [255, byte id, byte w.kind.code, 0, 0, 0, 0], some (.claim w.start w.stop), false⟩
          : TxEntry) ∈ t.line.txq ++ t.line.held
      ∧ (∀ f ∈ s.line.txq ++ s.line.held, f ∈ t.line.txq ++ t.line.held)
      ∧ t.meas = s.meas ∧ t.svc = s.svc ∧ t.ho = s.ho ∧ t.pag = s.pag ∧ t.calls = s.calls ∧ t.text = s.text

/-- WINDOW_START: a STANDING window becomes ACTIVE at its start tick, and no other window changes, whatever its unit does with
the report (R56, R66). Told active, the unit of the window offers its request to the transceiver: CAMP-REQ with the target's key
(R106), LINK-REQ with the reason of the needs (R115), SWITCH-REQ with the target's or RETURN-REQ with the old key (R129, R133),
and PARAMS-REQ with the serving key (R149). A TRAFFIC window that becomes ACTIVE ends the traffic absence and re-arms the gap check
(R118), and a WATCH makes the watch of its cycle ACTIVE (R146). -/
def Obligations.StandingWindowBecomesActive : Prop :=
  ∀ (id : Nat) (s : State) (w : Window), s.Ready → s.windowIn id .standing = some w →
    ∃ t, exec (.windowStart id) s = .next t
      ∧ t.air = { (s.reach w.start).air with
          plan := s.air.plan.map fun v => if v == w then { v with state := .active } else v }
      ∧ t.meas = s.meas ∧ t.calls = s.calls ∧ t.text = s.text ∧ t.line.rxq = s.line.rxq
      ∧ (∀ c, w.kind = .access → w.owner = .service → s.svc.camp = some c → c.window = some id →
        t.svc = { s.svc with camp := some { c with req := .offered s.line.nextSerial } }
          ∧ s.line.Sends t.line 2 56 (byte s.transceiver :: keyBytes c.target))
      ∧ (w.kind = .access → w.owner = .service → s.svc.camp = none → s.svc.conn.window = some id → s.svc.anyNeed = true →
        t.svc = { s.svc with conn := { s.svc.conn with req := .offered s.line.nextSerial } }
          ∧ s.line.Sends t.line 2 57
            [byte s.transceiver,
              if s.svc.needCall then 0
              else match s.svc.needPage with
                | some .call => 1
                | some .text => 2
                | none => if s.svc.needText then 3 else 4])
      ∧ (∀ c, w.kind = .switch → w.owner = .handover → s.ho.switch = some c → c.window = some id →
        t.ho = { s.ho with switch := some { c with req := .offered s.line.nextSerial } }
          ∧ (c.phase = .switch → s.line.Sends t.line 2 64 ([byte s.transceiver, byte id] ++ keyBytes c.target))
          ∧ (c.phase = .return_ → s.line.Sends t.line 2 65 ([byte s.transceiver, byte id] ++ keyBytes c.old)))
      ∧ (w.kind = .traffic → w.owner = .service →
        t.svc = { s.svc with traffic := { s.svc.traffic with accrued := 0, since := none, gapFlag := false } } ∧ t.ho = s.ho
          ∧ t.pag = s.pag)
      ∧ (∀ c, w.kind = .watch → w.owner = .paging → s.pag.running = true →
        s.pag.cycles.find? (·.watch == some id) = some c → c.status = .waiting →
        t.pag = { s.pag with
            cycles := s.pag.cycles.map fun d => if d.watch = some id then { d with status := .active } else d }
          ∧ t.svc = s.svc ∧ t.ho = s.ho)
      ∧ ∀ i c, w.kind = .info → w.owner = .paging → s.pag.info = some i → i.window = some id → s.serving? = some c →
        t.pag = { s.pag with info := some { i with req := .offered s.line.nextSerial } }
          ∧ s.line.Sends t.line 2 67 ([byte s.transceiver, byte id] ++ keyBytes c.key)

/-- WINDOW_END: an ACTIVE window is removed at its end tick with outcome FULL-TIME, or CUT where a cut set its end (R66). A WATCH
then awaits its result until 3277 ticks after its frame's end, or is missed with reason PEER (R146, R150); a MEASURE round waits
for its last report until 3277 ticks after its end, or is skipped (R93). A request sent in its window awaits its result:
SCAN-ORDER 16384 ticks (R103), CAMP-REQ and LINK-REQ 163840 (R106, R116), PARAMS-REQ 3277 (R149). One not sent, still queued or
held, is removed, and its window is requested again from now (R26, R103, R106, R116, R149), but that a third camp window not run
abandons the attempt, here one begun from SCANNING (R106, R108), and a third access attempt failed returns the part to CAMPED
(R116). A SWITCH window that ends after its request was sent begins the return with cause NO-RESULT or fails the return (R131,
R134); before, a new one is requested, or with its latest start passed the switch fails BLOCKED or the return fails (R128, R129,
R134); with the request being sent the attempt runs to its end (R129). At the end of a TRAFFIC window absence begins to run in
LINKED where no other is ACTIVE, and the next chunk is requested where no later one is in the plan (R117, R118). That a
SCAN-ORDER, CAMP-REQ, LINK-REQ or PARAMS-REQ being sent at the end counts for nothing is the model's reading (assumption log,
entry 17), and so is that LINKED entered again sets no close tick where none is set (R119; entry 26). -/
def Obligations.ActiveWindowEnds : Prop :=
  (∀ (id : Nat) (s : State) (w : Window) (c : Cycle), s.Ready → s.windowIn id .active = some w → w.kind = .watch →
    w.owner = .paging → s.pag.running = true → s.pag.cycles.find? (·.watch == some id) = some c → c.status = .active →
    (∀ d ∈ s.pag.cycles, d.watch = some id → d = c) →
    ∃ t, exec (.windowEnd id) s = .next t
      ∧ t.air = { (s.reach w.stop).air with plan := s.air.plan.filter (·.id != id) }
      ∧ (w.cut = none → t.pag.missed = s.pag.missed ∧ t.pag.cycles = s.pag.cycles.map fun d =>
        if d.watch == some id then { d with status := .awaiting, deadline := some (after c.stop 3277) } else d)
      ∧ (w.cut ≠ none → t.pag.missed = min 255 (s.pag.missed + 1) ∧ t.pag.missReason = some .peer)
      ∧ t.meas = s.meas ∧ t.svc = s.svc ∧ t.ho = s.ho ∧ t.calls = s.calls ∧ t.text = s.text)
  ∧ (∀ (id : Nat) (s : State) (w : Window) (q : Round), s.Ready → s.windowIn id .active = some w → w.kind = .measure →
    s.svc.state ≠ .scanning → s.round? id = some q → q.lastTaken = false →
    ∃ t, exec (.windowEnd id) s = .next t
      ∧ t.air = { (s.reach w.stop).air with plan := s.air.plan.filter (·.id != id) }
      ∧ t.meas.rounds = (match w.cut with
        | none => s.meas.rounds.map fun r => if r.id == id then
            { r with outcome := some .fullTime, silence := some (after (after q.start q.len) 3277) } else r
        | some _ => s.meas.rounds.filter (·.id != id))
      ∧ t.meas.cells = s.meas.cells ∧ t.svc = s.svc ∧ t.ho = s.ho ∧ t.calls = s.calls ∧ t.text = s.text)
  ∧ (∀ (id : Nat) (s : State) (w : Window) (c : Scan) (now : Tick), s.Ready → s.windowIn id .active = some w → w.kind = .scan →
    w.owner = .service → s.svc.scan = some c → c.window = some id → now = (s.reach w.stop).now →
    (c.order = .sent →
      exec (.windowEnd id) s = .next
        { s with
          air := { (s.reach w.stop).air with plan := s.air.plan.filter (·.id != id) }
          svc := { s.svc with scan := some { c with deadline := some (after now 16384) } } })
    ∧ (c.order ≠ .sent → s.PlanIs w →
      ∃ t n, exec (.windowEnd id) s = .next t
        ∧ t.svc = { s.svc with scan := some { c with window := some n, order := .unbuilt, deadline := none, retry := none } }
        ∧ t.Offers .service .scan n (after now 99) (after (after now 99) 16384) ∧ s.Retires t c.order
        ∧ t.meas = s.meas ∧ t.ho = s.ho ∧ t.pag = s.pag ∧ t.calls = s.calls ∧ t.text = s.text))
  ∧ (∀ (id : Nat) (s : State) (w : Window) (c : Camp) (now : Tick), s.Ready → s.windowIn id .active = some w →
    w.kind = .access → w.owner = .service → s.svc.camp = some c → c.window = some id → now = (s.reach w.stop).now →
    (c.req = .sent →
      exec (.windowEnd id) s = .next
        { s with
          air := { (s.reach w.stop).air with plan := s.air.plan.filter (·.id != id) }
          svc := { s.svc with camp := some { c with window := none, deadline := some (after now 163840) } } })
    ∧ (c.req ≠ .sent → s.PlanIs w → c.notRun < 2 →
      ∃ t n, exec (.windowEnd id) s = .next t
        ∧ t.svc = { s.svc with
            camp := some { c with notRun := c.notRun + 1, window := some n, req := .unbuilt, deadline := none } }
        ∧ t.Offers .service .access n (after now 99) (after (after now 99) 3277) ∧ s.Retires t c.req
        ∧ t.meas = s.meas ∧ t.ho = s.ho ∧ t.pag = s.pag ∧ t.calls = s.calls ∧ t.text = s.text)
    ∧ (c.req ≠ .sent → s.PlanIs w → c.notRun = 2 → c.peerBlocked = false → c.purpose = .scan → s.svc.state = .camping →
      32768 < 2 * s.svc.backoff →
      ∃ t n, exec (.windowEnd id) s = .next t ∧ t.svc.state = .scanning ∧ t.svc.camp = none ∧ t.svc.campTick = none
        ∧ t.svc.backoff = min 1048576 (2 * s.svc.backoff) ∧ t.svc.scan = some { Scan.fresh with window := some n }
        ∧ t.Plans .service .scan n (after now (min 1048576 (2 * s.svc.backoff)))
          (after (after now (min 1048576 (2 * s.svc.backoff))) 16384) .planned
        ∧ s.Retires t c.req ∧ t.air.anchor = none ∧ t.meas.cells = s.meas.cells.map Cell.demoted
        ∧ t.calls = s.calls ∧ t.text = s.text))
  ∧ (∀ (id : Nat) (s : State) (w : Window) (now : Tick), s.Ready → s.windowIn id .active = some w → w.kind = .access →
    w.owner = .service → s.svc.camp = none → s.svc.conn.window = some id → now = (s.reach w.stop).now →
    (s.svc.conn.req = .sent →
      exec (.windowEnd id) s = .next
        { s with
          air := { (s.reach w.stop).air with plan := s.air.plan.filter (·.id != id) }
          svc := { s.svc with conn := { s.svc.conn with window := none, deadline := some (after now 163840) } } })
    ∧ (s.svc.conn.req ≠ .sent → s.PlanIs w → s.svc.state = .connecting → s.svc.conn.retries < 2 →
      ∃ t n, exec (.windowEnd id) s = .next t
        ∧ t.svc = { s.svc with conn := { s.svc.conn with
            retries := s.svc.conn.retries + 1, window := some n, req := .unbuilt, deadline := none } }
        ∧ t.Offers .service .access n (after now 99) (after (after now 99) 1311) ∧ s.Retires t s.svc.conn.req
        ∧ t.meas = s.meas ∧ t.ho = s.ho ∧ t.pag = s.pag ∧ t.calls = s.calls ∧ t.text = s.text)
    ∧ (s.svc.conn.req ≠ .sent → s.PlanIs w → s.svc.state = .connecting → s.svc.conn.retries = 2 →
      s.svc.conn.peerBlocked = false → s.svc.needCall = false → s.svc.needText = false → s.svc.needStore = false →
      s.calls.table = [] → s.text.outbound = [] → s.text.exchange = .none → s.meas.rounds = [] →
      ∃ t, exec (.windowEnd id) s = .next t ∧ t.svc.state = .camped ∧ t.svc.needPage = none ∧ t.svc.conn.retries = 0
        ∧ t.pag.running = true ∧ t.calls = s.calls ∧ t.text = s.text))
  ∧ (∀ (id : Nat) (s : State) (w : Window) (c : Switch) (now : Tick), s.Ready → s.windowIn id .active = some w →
    w.kind = .switch → w.owner = .handover → s.ho.switch = some c → c.window = some id → now = (s.reach w.stop).now →
    (c.req = .sent → s.PlanIs w → c.phase = .switch → s.svc.state = .switching →
      ∃ t n, exec (.windowEnd id) s = .next t ∧ t.svc = { s.svc with state := .returning }
        ∧ t.ho = { s.ho with
            switch := some
              { c with
                phase := .return_, cause := some .noResult, latest := after now 32768, window := some n, req := .unbuilt
                ended := false } }
        ∧ t.Offers .handover .switch n (after now 99) (after (after now 99) 16384)
        ∧ t.meas = { s.meas with
            cells := s.meas.cells.map fun d =>
              if d.key == c.target ∧ d.role ≠ .serving then
                { d with penalty := 16, penaltyUntil := some (after now 983040) }
              else d }
        ∧ t.pag = s.pag ∧ t.calls = s.calls ∧ t.text = s.text)
    ∧ (s.PlanIs w → c.phase = .return_ → s.svc.state = .returning → s.svc.needStore = s.text.exchange.needsStore →
      (c.req = .sent
        ∨ (∀ n, c.req = .offered n → s.line.isBeingSent n = false) ∧ later (after now 99) c.latest = true) →
      ∃ t n, exec (.windowEnd id) s = .next t ∧ t.svc.state = .scanning ∧ t.svc.reported = some .scanning
        ∧ t.svc.needPage = none ∧ t.svc.needCall = false ∧ t.svc.needText = false ∧ t.svc.needStore = false
        ∧ t.ho = Handover.reset ∧ t.calls.table = [] ∧ t.calls.timersHeld = false ∧ t.text.timersHeld = false
        ∧ (∀ o ∈ t.text.outbound, o.state = .composing) ∧ t.air.anchor = none
        ∧ t.svc.scan = some { Scan.fresh with window := some n }
        ∧ t.Offers .service .scan n (after now 99) (after (after now 99) 16384))
    ∧ (c.req ≠ .sent → (∀ n, c.req = .offered n → s.line.isBeingSent n = false) → s.PlanIs w →
      (later (after now 99) c.latest = false →
        ∃ t n, exec (.windowEnd id) s = .next t
          ∧ t.ho = { s.ho with switch := some { c with window := some n, req := .unbuilt, ended := false } }
          ∧ t.Offers .handover .switch n (after now 99)
            (after (after now 99) (match c.phase with
              | .switch => c.ticks
              | .return_ => 16384))
          ∧ s.Retires t c.req ∧ t.meas = s.meas ∧ t.svc = s.svc ∧ t.pag = s.pag ∧ t.calls = s.calls ∧ t.text = s.text)
      ∧ (later (after now 99) c.latest = true → c.phase = .switch → s.svc.state = .switching → s.svc.traffic.close = none →
        ∃ t n, exec (.windowEnd id) s = .next t ∧ t.svc.state = .linked ∧ t.svc.reported = some .linked
          ∧ t.svc.traffic = { s.svc.traffic with since := some (s.svc.traffic.since.getD now) }
          ∧ t.ho = { s.ho with switch := none, uplink := [] }
          ∧ t.Offers .service .traffic n (after now 99) (after (after now 99) 16384)
          ∧ s.UplinkReleased t s.line.nextSerial ∧ (s.reach w.stop).TimersResumed t ∧ t.meas = s.meas ∧ t.pag = s.pag
          ∧ (s.enabled .handoverFailed = true → t.Tells .handoverFailed (keyBytes c.target ++ [2, 0]))))
    ∧ ∀ n, c.req = .offered n → s.line.isBeingSent n = true →
      ∃ t, exec (.windowEnd id) s = .next t ∧ s.Retires t c.req
        ∧ t.ho = { s.ho with switch := some { c with window := none, ended := true } }
        ∧ t.air = { (s.reach w.stop).air with plan := s.air.plan.filter (·.id != id) }
        ∧ t.meas = s.meas ∧ t.svc = s.svc ∧ t.pag = s.pag ∧ t.calls = s.calls ∧ t.text = s.text)
  ∧ (∀ (id : Nat) (s : State) (w : Window) (now : Tick), s.Ready → s.windowIn id .active = some w → w.kind = .traffic →
    w.owner = .service → now = (s.reach w.stop).now →
    (s.svc.state ≠ .linked →
      exec (.windowEnd id) s = .next
        { s with air := { (s.reach w.stop).air with plan := s.air.plan.filter (·.id != id) } })
    ∧ (s.svc.state = .linked → s.PlanIs w →
      ∃ t n, exec (.windowEnd id) s = .next t
        ∧ t.svc = { s.svc with traffic := { s.svc.traffic with since := some (s.svc.traffic.since.getD now) } }
        ∧ t.Offers .service .traffic n (after now 99) (after (after now 99) 16384)
        ∧ t.meas = s.meas ∧ t.ho = s.ho ∧ t.pag = s.pag ∧ t.calls = s.calls ∧ t.text = s.text)
    ∧ ∀ v, s.svc.state = .linked → s.air.plan = [w, v] → v.id ≠ id → v.kind = .traffic → v.state ≠ .active →
      exec (.windowEnd id) s = .next
        { s with
          air := { (s.reach w.stop).air with plan := [v] }
          svc := { s.svc with traffic := { s.svc.traffic with since := some (s.svc.traffic.since.getD now) } } })
  ∧ ∀ (id : Nat) (s : State) (w : Window) (i : Info) (now : Tick), s.Ready → s.windowIn id .active = some w → w.kind = .info →
    w.owner = .paging → s.pag.info = some i → i.window = some id → now = (s.reach w.stop).now →
    (i.req = .sent →
      exec (.windowEnd id) s = .next
        { s with
          air := { (s.reach w.stop).air with plan := s.air.plan.filter (·.id != id) }
          pag := { s.pag with info := some { i with window := none, deadline := some (after now 3277) } } })
    ∧ (i.req ≠ .sent → s.PlanIs w →
      ∃ t n, exec (.windowEnd id) s = .next t
        ∧ t.pag = { s.pag with info := some { window := some n, req := .unbuilt, deadline := none } }
        ∧ t.Offers .paging .info n (after now 99) (after (after now 99) 655) ∧ s.Retires t i.req
        ∧ t.meas = s.meas ∧ t.svc = s.svc ∧ t.ho = s.ho ∧ t.calls = s.calls ∧ t.text = s.text)

/-- A CLAIM that has not been sent in time: one being sent runs its attempt to the end and is marked for removal; one still
queued leaves the queue, and its window, here a MEASURE window, lapses and its round is skipped. This holds at the stand
deadline (R65) and at the removal at the window's start (R26, R93). -/
def Obligations.UnsentClaimLapses : Prop :=
  (∀ (id n : Nat) (s : State) (w : Window), s.Ready → s.windowIn id .offered = some w → w.claim = some n →
    s.line.isBeingSent n = true → (∀ e ∈ s.line.held, e.serial ≠ n) →
    exec (.standDeadline id) s = .next
      { s.reach (before w.start 66) with line :=
        { s.line with txq := s.line.txq.map fun e => if e.serial == n then { e with removal := true } else e } })
  ∧ (∀ (id : Nat) (s : State) (e : TxEntry) (start : Tick), s.Ready → s.line.queuedClaim id = some (e, start) →
    s.line.isBeingSent e.serial = true → (∀ f ∈ s.line.held, f.serial ≠ e.serial) →
    exec (.claimStartRemoval id) s = .next
      { s.reach start with line :=
        { s.line with txq := s.line.txq.map fun f => if f.serial == e.serial then { f with removal := true } else f } })
  ∧ (∀ (id n : Nat) (s : State) (w : Window) (q : Round), s.Ready → s.windowIn id .offered = some w → w.claim = some n →
    s.line.isBeingSent n = false → s.line.isQueued n = true → (∀ e ∈ s.line.held, e.serial ≠ n) → w.kind = .measure →
    s.svc.state ≠ .scanning → s.round? id = some q →
    ∃ t, exec (.standDeadline id) s = .next t ∧ t.air.plan = s.air.plan.filter (·.id != id)
      ∧ t.meas.rounds = s.meas.rounds.filter (·.id != id) ∧ (∀ f ∈ t.line.txq ++ t.line.held, f.serial ≠ n)
      ∧ t.svc = s.svc ∧ t.ho = s.ho ∧ t.calls = s.calls ∧ t.text = s.text)
  ∧ ∀ (id : Nat) (s : State) (e : TxEntry) (start : Tick) (w : Window) (q : Round), s.Ready →
    s.line.queuedClaim id = some (e, start) → s.line.isBeingSent e.serial = false →
    s.air.plan.find? (fun v => v.claim == some e.serial && v.state == .offered) = some w →
    (∀ f ∈ s.line.held, f.serial ≠ e.serial) → w.kind = .measure → s.svc.state ≠ .scanning → s.round? w.id = some q →
    ∃ t, exec (.claimStartRemoval id) s = .next t ∧ t.air.plan = s.air.plan.filter (·.id != w.id)
      ∧ t.meas.rounds = s.meas.rounds.filter (·.id != w.id) ∧ (∀ f ∈ t.line.txq ++ t.line.held, f.serial ≠ e.serial)
      ∧ t.svc = s.svc ∧ t.ho = s.ho ∧ t.calls = s.calls ∧ t.text = s.text

/-- PARCEL_SENT of a CLAIM: the send tally falls and the entry leaves the send path (R20, R25). With its tail ending no later than
66 ticks before the window's start the window is STANDING with its echo read (R64); of a MEASURE window the round's order list is
then built, SERVING, LISTED by rising key and FOUND by falling level up to the capacity, and a MEASURE-ORDER of it offered (R91),
and of a SCAN window a SCAN-ORDER (R103). Sent later, the window lapses LATE with a WITHDRAW, here a MEASURE window, whose round
is skipped (R64, R93). Of a CLAIM whose window has left the plan meanwhile nothing more is owed, and the WITHDRAW that is owed for
it is offered as a removal (R68). -/
def Obligations.SentClaimMakesItsWindowStand : Prop :=
  ∀ (s : State) (a : Attempt) (e : TxEntry), s.OnLine → s.line.phase = .sending a →
    s.line.entry? a.serial = some e → e.topic = 1 → (∀ f ∈ s.line.held, f.serial ≠ a.serial) → a.serial < s.line.nextSerial →
    (s.air.plan.find? (fun v => v.claim == some e.serial && v.state == .offered) = none →
      ∃ t, exec .parcelSent s = .next t ∧ t.line.phase = .idle ∧ t.line.sendTally = s.line.sendTally - 1
        ∧ t.line.listenTally = s.line.listenTally ∧ t.line.rxq = s.line.rxq
        ∧ (∀ f ∈ t.line.txq ++ t.line.held, f.serial ≠ a.serial)
        ∧ (∀ o, s.air.owed.find? (·.serial == e.serial) = some o → s.line.Sends t.line o.cls 2 [255, byte o.id, 0, 0])
        ∧ t.air = { (s.reach a.tailTick).air with owed := s.air.owed.filter (·.serial != e.serial) }
        ∧ t.meas = s.meas ∧ t.svc = s.svc ∧ t.ho = s.ho ∧ t.pag = s.pag ∧ t.calls = s.calls ∧ t.text = s.text)
    ∧ ∀ w : Window, s.air.plan.find? (fun v => v.claim == some e.serial && v.state == .offered) = some w →
    (notLater a.tailTick (before w.start 66) = true →
      ∃ t, exec .parcelSent s = .next t ∧ t.line.phase = .idle ∧ t.line.sendTally = s.line.sendTally - 1
        ∧ t.line.listenTally = s.line.listenTally ∧ t.line.rxq = s.line.rxq
        ∧ (∀ f ∈ t.line.txq ++ t.line.held, f.serial ≠ a.serial)
        ∧ t.air = { (s.reach a.tailTick).air with
            plan := s.air.plan.map fun v => if v.id == w.id then { v with state := .standing, echoed := true } else v }
        ∧ t.calls = s.calls ∧ t.text = s.text ∧ t.ho = s.ho
        ∧ (∀ q, w.kind = .measure → s.round? w.id = some q →
          ∃ (ls fs : List Cell) (order : List CellKey), ls.Perm (s.meas.cells.filter (·.role == .listed))
            ∧ fs.Perm (s.meas.cells.filter (·.role == .found)) ∧ ls.Pairwise (fun c d => keyBelow d.key c.key = false)
            ∧ fs.Pairwise (fun c d =>
              levelBelow c.level d.level = false ∧ (c.level = d.level → keyBelow d.key c.key = false))
            ∧ order = ((s.meas.cells.filter (·.role == .serving) ++ ls ++ fs).map (·.key)).take q.capacity
            ∧ t.meas = { s.meas with
                rounds := s.meas.rounds.map fun r =>
                  if r.id == w.id then { r with order := some order, req := .offered s.line.nextSerial } else r }
            ∧ s.line.Sends t.line 3 66 ([byte s.transceiver, byte w.id, byte order.length] ++ order.flatMap keyBytes))
        ∧ ∀ c, w.kind = .scan → w.owner = .service → s.svc.scan = some c → c.window = some w.id →
          t.svc = { s.svc with scan := some { c with order := .offered s.line.nextSerial } }
            ∧ s.line.Sends t.line 2 68 [byte s.transceiver, byte w.id])
    ∧ ∀ q, notLater a.tailTick (before w.start 66) = false → w.kind = .measure → s.round? w.id = some q → q.req = .unbuilt →
      s.svc.state ≠ .scanning →
      ∃ t, exec .parcelSent s = .next t ∧ t.line.phase = .idle ∧ t.line.sendTally = s.line.sendTally - 1
        ∧ t.line.listenTally = s.line.listenTally ∧ t.line.rxq = s.line.rxq
        ∧ (∀ f ∈ t.line.txq ++ t.line.held, f.serial ≠ a.serial)
        ∧ t.air = { (s.reach a.tailTick).air with plan := s.air.plan.filter (·.id != w.id) }
        ∧ s.line.Sends t.line w.cls 2 [255, byte w.id, 0, 0]
        ∧ t.meas = { s.meas with rounds := s.meas.rounds.filter (·.id != w.id) }
        ∧ t.svc = s.svc ∧ t.ho = s.ho ∧ t.calls = s.calls ∧ t.text = s.text

/-- PARCEL_SENT of any parcel but a CLAIM: the send tally falls, the line is idle, the entry has left the queue, and of the units
only this changes (R7, R20, R22, R25). The request that the entry is becomes sent: CAMP-REQ (R106), LINK-REQ (R115), SWITCH-REQ and
RETURN-REQ (R129, R133), MEASURE-ORDER (R91), PARAMS-REQ (R149), SCAN-ORDER (R103); a HANDOVER-REPORT is no longer queued or held
(R126). An entry that no request names any more makes none sent, which is the model's reading (assumption log, entry 17). A
SWITCH-REQ whose window ended while it was being sent begins the return with cause NO-RESULT, and a RETURN-REQ, by entry 17, fails
the return (R129, R131, R134). A sent NOTICE's entry leaves the list, or is a fresh one with its follow-on count and detail; then
the NOTICE of the lowest class and kind number not offered is built, if there is one; one that RESTART asked to remove changes no
entry; and a LINE-STATE that the fall raises is recorded first (R21, R41, R42). -/
def Obligations.SentParcelLeavesTheQueue : Prop :=
  ∀ (s : State) (a : Attempt) (e : TxEntry), s.OnLine → s.line.phase = .sending a → s.line.entry? a.serial = some e →
    e.topic ≠ 1 → (∀ f ∈ s.line.held, f.serial ≠ a.serial) → a.serial < s.line.nextSerial →
    ((∀ c, e.topic = 64 ∨ e.topic = 65 → s.ho.switch = some c → c.req = .offered a.serial → c.ended = false) →
      ∃ t, exec .parcelSent s = .next t ∧ s.EntrySent t a
        ∧ t.air = (s.reach a.tailTick).air
        ∧ t.meas = { s.meas with
            rounds :=
              if e.topic = 66 then s.meas.rounds.map (fun q => { q with req := q.req.afterSent a.serial })
              else s.meas.rounds }
        ∧ t.svc = { s.svc with
            camp := if e.topic = 56 then s.svc.camp.map (fun c => { c with req := c.req.afterSent a.serial }) else s.svc.camp
            conn := if e.topic = 57 then { s.svc.conn with req := s.svc.conn.req.afterSent a.serial } else s.svc.conn
            scan :=
              if e.topic = 68 then s.svc.scan.map (fun c => { c with order := c.order.afterSent a.serial }) else s.svc.scan }
        ∧ t.ho = { s.ho with
            report := if e.topic = 63 ∧ s.ho.report = some a.serial then none else s.ho.report
            switch :=
              if e.topic = 64 ∨ e.topic = 65 then s.ho.switch.map (fun c => { c with req := c.req.afterSent a.serial })
              else s.ho.switch }
        ∧ t.pag = { s.pag with
            info := if e.topic = 67 then s.pag.info.map (fun i => { i with req := i.req.afterSent a.serial }) else s.pag.info }
        ∧ t.calls = s.calls ∧ t.text = s.text
        ∧ (e.topic ≠ 33 → deriveLineState (s.line.sendTally - 1) s.line.listenTally = s.line.state → t.cmd = s.cmd))
    ∧ (∀ (c : Switch) (now : Tick), e.topic = 64 ∨ e.topic = 65 → s.ho.switch = some c → c.req = .offered a.serial →
      c.ended = true → c.window = none → s.PlanClear → now = (s.reach a.tailTick).now →
      (c.phase = .switch → s.svc.state = .switching →
        ∃ t id, exec .parcelSent s = .next t ∧ s.EntrySent t a ∧ t.svc = { s.svc with state := .returning }
          ∧ t.ho = { s.ho with
              switch := some
                { c with
                  phase := .return_, cause := some .noResult, latest := after now 32768, window := some id, req := .unbuilt
                  ended := false } }
          ∧ t.Offers .handover .switch id (after now 99) (after (after now 99) 16384)
          ∧ t.meas = { s.meas with
              cells := s.meas.cells.map fun d =>
                if d.key == c.target ∧ d.role ≠ .serving then
                  { d with penalty := 16, penaltyUntil := some (after now 983040) }
                else d }
          ∧ t.pag = s.pag ∧ t.calls = s.calls ∧ t.text = s.text)
      ∧ (c.phase = .return_ → s.svc.state = .returning → s.svc.needStore = s.text.exchange.needsStore →
        ∃ t id, exec .parcelSent s = .next t ∧ s.EntrySent t a ∧ t.svc.state = .scanning ∧ t.svc.reported = some .scanning
          ∧ t.svc.needPage = none ∧ t.svc.needCall = false ∧ t.svc.needText = false ∧ t.svc.needStore = false
          ∧ t.ho = Handover.reset ∧ t.calls.table = [] ∧ t.calls.timersHeld = false ∧ t.text.timersHeld = false
          ∧ (∀ o ∈ t.text.outbound, o.state = .composing) ∧ t.air.anchor = none
          ∧ t.svc.scan = some { Scan.fresh with window := some id }
          ∧ t.Offers .service .scan id (after now 99) (after (after now 99) 16384)))
    ∧ ∀ (o : NoticeOut) (st : LineState) (k l : List NoticeEntry), e.topic = 33 → s.cmd.noticeOut = some o →
      o.serial = a.serial → s.cmd.handling = false → st = deriveLineState (s.line.sendTally - 1) s.line.listenTally →
      k = (if st = s.line.state ∨ s.enabled .lineState = false then s.cmd.notices
        else recordNotice .lineState [byte st.code, byte (s.line.sendTally - 1), byte s.line.listenTally] s.cmd.notices) →
      l = (if o.void = true then k
        else k.filterMap fun n =>
          if n.kind = o.kind then
            if n.follow = 0 then none
            else some
              { kind := n.kind, count := n.follow, detail := n.followDetail, offered := false, follow := 0, followDetail := [] }
          else some n) →
      ((∀ n ∈ l, n.offered = true) →
        ∃ t, exec .parcelSent s = .next t ∧ s.EntrySent t a ∧ t.cmd = { s.cmd with notices := l, noticeOut := none }
          ∧ ∀ f, f ∈ t.line.txq ++ t.line.held ↔ f ∈ s.line.txq ++ s.line.held ∧ f.serial ≠ a.serial)
      ∧ ∀ n ∈ l, n.offered = false →
        (∀ m ∈ l, m.offered = false → m = n ∨ n.kind.cls < m.kind.cls ∨ n.kind.cls = m.kind.cls ∧ n.kind.code < m.kind.code) →
        ∃ t, exec .parcelSent s = .next t ∧ s.EntrySent t a
          ∧ t.cmd = { s.cmd with
              notices := l.map fun m => if m.kind = n.kind then { m with offered := true } else m
              noticeOut := some { serial := s.line.nextSerial, kind := n.kind, void := false } }
          ∧ s.line.Sends t.line n.kind.cls 33 ([byte s.host, byte n.kind.code, byte n.count] ++ pad8 n.detail)

/-! ### Peer claims -/

/-- CLAIM: one of length 0 is discarded; another that displaces no own window is stored in order of start tick, in place of one
with its key or while there is room for it. A full list without its key drops one of its 24 claims and the new one: of the least
urgent class, then with the latest start, then from the highest station, then with the highest window id (R69 to R71). A new claim
goes behind those with its start tick: the model's choice (assumption log, entry 34). An own window is not displaced where the
claim does not outrank it, or neither overlaps it nor arrives on its end tick while it is ACTIVE (R66, R71). -/
def Obligations.PeerClaimIsStored : Prop :=
  ∀ (s : State) (r : RxRecord), s.Receives 1 r →
    (u16 r.payload 5 = 0 → exec .claim s = .next { s with line := { s.line with rxq := s.line.rxq.tail } })
    ∧ (u16 r.payload 5 ≠ 0 → s.air.peers.any (·.sameKey (claimOf r)) = true ∨ s.air.peers.length < 24 →
      (∀ w ∈ s.air.plan, outranks r.cls r.source w.cls s.line.station = false
        ∨ overlap (claimOf r).start (claimOf r).stop w.start w.stop = false ∧ (w.state = .active → w.stop ≠ r.arrival)) →
      exec .claim s = .next
        { s with
          line := { s.line with rxq := s.line.rxq.tail }
          air := { s.air with
            peers := insertClaim (claimOf r) (s.air.peers.filter fun d => !d.sameKey (claimOf r)) } })
    ∧ ∀ p : Claim, u16 r.payload 5 ≠ 0 → s.air.peers.any (·.sameKey (claimOf r)) = false → s.air.peers.length = 24 →
      p ∈ claimOf r :: s.air.peers →
      (∀ d ∈ claimOf r :: s.air.peers, d ≠ p →
        d.cls < p.cls ∨ d.cls = p.cls ∧ (later p.start d.start = true
          ∨ p.start = d.start ∧ (d.station < p.station ∨ d.station = p.station ∧ d.id < p.id))) →
      (p = claimOf r → exec .claim s = .next s.completeRecord)
      ∧ (p ≠ claimOf r →
        (∀ w ∈ s.air.plan, outranks r.cls r.source w.cls s.line.station = false
          ∨ overlap (claimOf r).start (claimOf r).stop w.start w.stop = false ∧ (w.state = .active → w.stop ≠ r.arrival)) →
        exec .claim s = .next
          { s with
            line := { s.line with rxq := s.line.rxq.tail }
            air := { s.air with peers := insertClaim (claimOf r) (s.air.peers.filter fun d => !d.sameKey p) } })

/-- A stored claim that outranks and overlaps an own window makes it give way (R58, R71), and so does one that outranks an ACTIVE
window and arrives on its end tick, before that end is taken: that window ends at once, CUT (R66); that it does so whatever the
claim's start is the model's reading (assumption log, entry 39: DEDUCED). A WATCH that is not ACTIVE leaves the plan, YIELDED, and
is missed with reason PEER (R146, R150): a PLANNED one with nothing on the line, an OFFERED one with its CLAIM discarded or
removed, a WITHDRAW being owed where that is being sent, and a STANDING one with a WITHDRAW (R67, R68). An ACTIVE window that is
overlapped is cut to end at the claim's start, with a WITHDRAW of that end, if it is later than now; otherwise it ends at once
with a WITHDRAW as a removal, and a WATCH is missed. In LINKED the unit of a TRAFFIC window cut or ended so requests the next
chunk behind the claim: at once where the window ends no later than now + 8192, absence running from now where it has ended, and
then at the earliest tick at which the claim leaves room (R60, R117, R118). -/
def Obligations.PeerClaimDisplacesAWatch : Prop :=
  ∀ (s : State) (r : RxRecord) (w : Window), s.Receives 1 r → u16 r.payload 5 ≠ 0 → s.air.peers.length < 24 →
    s.air.plan = [w] → outranks r.cls r.source w.cls s.line.station = true →
    (∀ c : Cycle, w.kind = .watch → w.owner = .paging → s.pag.running = true →
      s.pag.cycles.find? (·.watch == some w.id) = some c →
      (w.state ≠ .active ∧ c.status = .waiting ∧ overlap (claimOf r).start (claimOf r).stop w.start w.stop = true)
        ∨ (w.state = .active ∧ c.status = .active
          ∧ (overlap (claimOf r).start (claimOf r).stop w.start w.stop = true ∧ later (claimOf r).start s.now = false
            ∨ w.stop = r.arrival)) →
      ∃ t, exec .claim s = .next t ∧ t.air.plan = [] ∧ s.Retracts t w
        ∧ (w.state = .planned ∨ w.state = .offered →
          ∀ e ∈ t.line.txq ++ t.line.held, e.topic = 2 → ∃ f ∈ s.line.txq ++ s.line.held, f.serial = e.serial)
        ∧ claimOf r ∈ t.air.peers ∧ t.pag.missed = min 255 (s.pag.missed + 1) ∧ t.pag.missReason = some .peer
        ∧ t.line.rxq = s.line.rxq.tail ∧ t.meas = s.meas ∧ t.svc = s.svc ∧ t.calls = s.calls ∧ t.text = s.text)
    ∧ (w.state = .active → overlap (claimOf r).start (claimOf r).stop w.start w.stop = true →
      later (claimOf r).start s.now = true →
      w.kind ≠ .traffic ∨ s.svc.state ≠ .linked ∨ later (claimOf r).start (after s.now 8192) = true →
      ∃ t, exec .claim s = .next t
        ∧ t.air.plan = [{ w with stop := (claimOf r).start, cut := some (.peer r.source) }] ∧ claimOf r ∈ t.air.peers
        ∧ s.Cuts t w (.peer r.source) (claimOf r).start
        ∧ t.line.rxq = s.line.rxq.tail ∧ t.meas = s.meas ∧ t.svc = s.svc ∧ t.ho = s.ho ∧ t.pag = s.pag
        ∧ t.calls = s.calls ∧ t.text = s.text)
    ∧ (w.state = .active → w.kind = .traffic → w.owner = .service → w.cls = WinKind.traffic.cls → s.svc.state = .linked →
      s.air.peers = [] →
      (overlap (claimOf r).start (claimOf r).stop w.start w.stop = true → later (claimOf r).start s.now = true →
        later (claimOf r).start (after s.now 8192) = false → s.NoWithdraw →
        ∃ t n, exec .claim s = .next t ∧ s.Cuts t w (.peer r.source) (claimOf r).start
          ∧ t.PlacesChunk n (laterOf (claimOf r).stop (after s.now 99)) ∧ t.air.plan.length = 2 ∧ t.air.peers = [claimOf r]
          ∧ t.line.rxq = s.line.rxq.tail ∧ t.meas = s.meas ∧ t.svc = s.svc ∧ t.ho = s.ho ∧ t.pag = s.pag
          ∧ t.calls = s.calls ∧ t.text = s.text)
      ∧ (overlap (claimOf r).start (claimOf r).stop w.start w.stop = true ∧ later (claimOf r).start s.now = false
          ∨ w.stop = r.arrival →
        ∃ t n, exec .claim s = .next t ∧ s.Retracts t w
          ∧ t.PlacesChunk n
            (if overlap (after s.now 99) (after (after s.now 99) 16384) (claimOf r).start (claimOf r).stop = true then
              (claimOf r).stop
            else after s.now 99)
          ∧ t.air.plan.length = 1 ∧ t.air.peers = [claimOf r]
          ∧ t.svc = { s.svc with traffic := { s.svc.traffic with since := some (s.svc.traffic.since.getD s.now) } }
          ∧ t.line.rxq = s.line.rxq.tail ∧ t.meas = s.meas ∧ t.ho = s.ho ∧ t.pag = s.pag ∧ t.calls = s.calls
          ∧ t.text = s.text))

/-- WITHDRAW: a short one has no effect. Else of the claim keyed by the source station and the window id, a cut offset of 0 or a
new end not later than the claim's start removes it, an earlier end shortens it, and a later one leaves it; no other claim and
no own window changes (R72). -/
def Obligations.WithdrawRemovesOrShortens : Prop :=
  (∀ (s : State) (r : RxRecord), s.Front 2 r → isShort 2 r.payload = true → exec .withdraw s = .next s.completeRecord)
  ∧ ∀ (s : State) (r : RxRecord), s.Receives 2 r →
    exec .withdraw s = .next
      { s with
        line := { s.line with rxq := s.line.rxq.tail }
        air := { s.air with
          peers := s.air.peers.filterMap fun c =>
            if c.station = r.source ∧ c.id = u8 r.payload 1 then
              if u16 r.payload 2 = 0 ∨ notLater (after r.arrival (u16 r.payload 2)) c.start = true then none
              else if earlier (after r.arrival (u16 r.payload 2)) c.stop = true then
                some { c with stop := after r.arrival (u16 r.payload 2) }
              else some c
            else some c } }

/-! ### Frames -/

/-- ANCHOR_REBASE: when the counter reaches A + 2^24, A becomes A + 2^24, N and p unchanged, in any power state; and every
boundary from the new A on lies at the same tick, with the same frame number, as from the old one (R51). -/
def Obligations.RebasedAnchorKeepsTheBoundaries : Prop :=
  (∀ (s : State) (a : Anchor), s.Settled → s.air.anchor = some a →
    exec .anchorRebase s = .next
      (State.refreshWake
        { s with air :=
          { (s.reach (after a.tick (2 ^ 24))).air with
            anchor := some { a with tick := after a.tick (2 ^ 24) } } }))
  ∧ ∀ (a : Anchor) (k : Nat),
    ({ a with tick := after a.tick (2 ^ 24) } : Anchor).boundary k = a.boundary (k + 51200)
      ∧ (a.frame + k) % 1024 = (a.frame + (k + 51200)) % 1024

/-- The next frame with remainder r modulo D not earlier than t is the one with the least k whose number has that remainder and
whose boundary is not before t, when t is after the anchor's tick (R49, R50). -/
def Obligations.NextFrameIsTheEarliest : Prop :=
  ∀ (a : Anchor) (d r : Nat) (t : Tick), 0 < d → r < d → later t a.tick = true →
    (a.frame + a.nextIndex d r t) % d = r
      ∧ elapsed t a.tick ≤ (a.phase + 8192 * a.nextIndex d r t) / 25
      ∧ ∀ k, (a.frame + k) % d = r → elapsed t a.tick ≤ (a.phase + 8192 * k) / 25 → a.nextIndex d r t ≤ k

/-! ### Deadlines that only clear what they hold -/

/-- The deadlines whose events clear or end what they belong to and touch nothing else, in any power state: a peer claim's end
(R69), a penalty (R84), a barring (R85), the info wait (R149), the edge hold (R156) and the host linger (R43). -/
def Obligations.ExpiriesClearWhatTheyHold : Prop :=
  (∀ (station id : Nat) (s : State) (c : Claim), s.Settled →
    s.air.peers.find? (fun d => d.station == station && d.id == id) = some c →
    exec (.claimExpiry station id) s = .next
      (State.refreshWake
        { s with air :=
          { (s.reach c.stop).air with peers := s.air.peers.filter fun d => !(d.station == station && d.id == id) } }))
  ∧ (∀ (k : CellKey) (s : State) (c : Cell) (t : Tick), s.Settled → s.cell? k = some c → c.penaltyUntil = some t →
    exec (.penaltyExpiry k) s = .next
      (State.refreshWake
        { s with
          air := (s.reach t).air
          meas := { s.meas with
            cells := s.meas.cells.map fun d => if d.key == k then { d with penalty := 0, penaltyUntil := none } else d } }))
  ∧ (∀ (k : CellKey) (s : State) (c : Cell) (t : Tick), s.Settled → s.cell? k = some c → c.barredUntil = some t →
    exec (.barringExpiry k) s = .next
      (State.refreshWake
        { s with
          air := (s.reach t).air
          meas := { s.meas with
            cells := s.meas.cells.map fun d =>
              if d.key == k then
                { d with
                  role := d.before.getD .found, before := none, barredUntil := none, level := none, quality := none
                  samples := 0, misses := 0, lastSample := none }
              else d } }))
  ∧ (∀ (s : State) (i : Info) (t : Tick), s.Settled → s.pag.info = some i → i.deadline = some t →
    exec .infoWaitDeadline s = .next
      (State.refreshWake { s with air := (s.reach t).air, pag := { s.pag with info := none } }))
  ∧ (∀ (s : State) (t : Tick), s.Settled → s.pag.edgeHold = some t →
    exec .edgeHoldExpiry s = .next
      (State.refreshWake { s with air := (s.reach t).air, pag := { s.pag with edgeHold := none } }))
  ∧ ∀ (s : State) (t : Tick), s.Settled → s.cmd.linger = some t →
    exec .lingerExpiry s = .next
      (State.refreshWake { s with air := (s.reach t).air, cmd := { s.cmd with linger := none } })

/-! ### The cell table and measurement -/

/-- CELL_PARAMS: for the serving cell and outside SHELVED its values, brought into their ranges, come into force; for any other
cell, and in SHELVED, nothing changes. When W, N_med or N_high changes, the count and the threshold are reckoned anew: calm-since
is set to now where it is absent and the count below the threshold, and cleared where it is not below (R114). When C, G and s are
as they were, or no schedule runs, nothing else changes. When C, G or s changes while the schedule runs, the WAITING cycle is
dropped and its windows are released, each retracted on the line as its state asks, a kept cycle staying with its windows (R67,
R145); without an anchor a plan is owed, and with one the next paging frame of the new values, not earlier than now + 99 and a
kept cycle's frame end, gets its WATCH and its MEASURE window (R141, R143, R144). A value in its range is taken as sent, and one
outside as the nearer end or the nearest value, the smaller of two equally near (R77 to R79). -/
def Obligations.CellParamsComeIntoForce : Prop :=
  (∀ (s : State) (r : RxRecord), s.Receives 40 r →
    (s.isServingKey (keyAt r.payload 1) = false ∨ s.svc.state = .shelved → exec .cellParams s = .next s.completeRecord)
    ∧ (s.isServingKey (keyAt r.payload 1) = true → s.svc.state ≠ .shelved →
      ∃ t, exec .cellParams s = .next t ∧ t.meas.params = paramsOf r.payload ∧ t.line.rxq = s.line.rxq.tail
        ∧ ((paramsOf r.payload).span = s.meas.params.span → (paramsOf r.payload).nMed = s.meas.params.nMed →
          (paramsOf r.payload).nHigh = s.meas.params.nHigh → t.svc.calmSince = s.svc.calmSince)
        ∧ (∀ u : State, u = { s with meas := { s.meas with params := paramsOf r.payload } } →
          u.meas.params.span ≠ s.meas.params.span ∨ u.meas.params.nMed ≠ s.meas.params.nMed
            ∨ u.meas.params.nHigh ≠ s.meas.params.nHigh →
          t.svc.calmSince = match u.threshold with
            | none => none
            | some n => if u.mobCount < n then some (s.svc.calmSince.getD s.now) else none)
        ∧ (s.pag.running = false
            ∨ ((paramsOf r.payload).cycle = s.meas.params.cycle ∧ (paramsOf r.payload).groups = s.meas.params.groups
              ∧ (paramsOf r.payload).shift = s.meas.params.shift) →
          t = { s.completeRecord with
            meas := { s.meas with params := paramsOf r.payload }
            svc := { s.svc with calmSince := t.svc.calmSince } }))
    ∧ ∀ (p : Params) (ks cs : List Cycle) (mine : Window → Bool) (vs : List Window),
      s.isServingKey (keyAt r.payload 1) = true → s.svc.state = .camped → s.pag.running = true → p = paramsOf r.payload →
      p.cycle ≠ s.meas.params.cycle ∨ p.groups ≠ s.meas.params.groups ∨ p.shift ≠ s.meas.params.shift →
      s.pag.cycles = ks ++ cs → ks.length ≤ 1 → cs.length ≤ 1 → (∀ c ∈ ks, c.status ≠ .waiting) → (∀ c ∈ cs, c.status = .waiting) →
      mine = (fun w => cs.any fun c => c.watch == some w.id || c.measure == some w.id) → vs = s.air.plan.filter (!mine ·) →
      (s.air.plan.map (·.id)).Nodup → (∀ w ∈ s.air.plan, mine w = true → w.owner = .paging) → s.ClaimsPast →
      (∀ q ∈ s.meas.rounds, ∀ n, q.req = .offered n → n < s.line.nextSerial) →
      (s.air.anchor = none →
        ∃ t, exec .cellParams s = .next t ∧ t.air.plan = vs ∧ (∀ w ∈ s.air.plan, mine w = true → s.Retracts t w)
          ∧ t.meas = { s.meas with
              params := p, rounds := s.meas.rounds.filter fun q => !s.air.plan.any fun w =>
                mine w && w.kind == .measure && w.id == q.id }
          ∧ t.pag = { s.pag with
              cycles := ks, planOwed := true
              fullMeasures := s.pag.fullMeasures.filter fun id => !cs.any (·.measure == some id) }
          ∧ t.svc = { s.svc with calmSince := t.svc.calmSince } ∧ t.ho = s.ho ∧ t.calls = s.calls ∧ t.text = s.text)
      ∧ ∀ (a : Anchor) (u : Setup) (t0 start stop : Tick) (frame full n rounds : Nat), s.air.anchor = some a →
        s.cmd.setup = some u → s.air.peers = [] →
        t0 = (match ks.getLast? with
          | some k => laterOf (after s.now 99) k.stop
          | none => after s.now 99) →
        a.nextFrame p.cycle (u.index % p.groups * (p.cycle / p.groups) + p.shift) t0 = (frame, start, stop) →
        earlier start (after s.now 99) = false → later start (after s.now (2 ^ 30)) = false →
        earlier stop (after s.now 99) = false → later stop (after s.now (2 ^ 30)) = false →
        rounds = min 255 (s.pag.roundsSinceFull + 1) →
        full = (match s.serving?.bind (·.level) with
          | none => 1
          | some f =>
            if f < 16 * p.search ∨ (match s.svc.mobility with
                | .normal => 4
                | .medium => 2
                | .high => 1) ≤ rounds then 1 else 0) →
        n = (if full = 1 then min 16 (max 1 (s.meas.cells.filter (·.role != .barred)).length) else 1) →
        vs.length ≤ 6 → s.meas.rounds.length ≤ 3 →
        (∀ v ∈ vs, overlap start stop v.start v.stop = false
          ∧ overlap stop (after stop (33 + 16 * n)) v.start v.stop = false) →
        ∃ t w m stw stm, exec .cellParams s = .next t ∧ t.Plans .paging .watch w start stop stw
          ∧ t.Plans .paging .measure m stop (after stop (33 + 16 * n)) stm ∧ t.air.plan.length = vs.length + 2
          ∧ (∀ w ∈ s.air.plan, mine w = true → s.Retracts t w) ∧ t.meas.params = p ∧ t.meas.cells = s.meas.cells
          ∧ (∃ q ∈ t.meas.rounds, q.id = m ∧ q.start = stop ∧ q.capacity = n ∧ q.req = .unbuilt)
          ∧ t.pag.cycles = ks
            ++ [{ frame := frame, start := start, stop := stop, watch := some w, status := .waiting, deadline := none,
                  measure := some m, full := full == 1, ended := false }]
          ∧ t.pag.roundsSinceFull = (if full = 1 then 0 else rounds) ∧ t.pag.missed = s.pag.missed
          ∧ t.svc = { s.svc with calmSince := t.svc.calmSince } ∧ t.ho = s.ho ∧ t.calls = s.calls ∧ t.text = s.text)
  ∧ ∀ p : List Byte,
    (paramsOf p).cycle ∈ [32, 64, 128, 256] ∧ (paramsOf p).groups ∈ [1, 2, 4, 8, 16, 32]
      ∧ (paramsOf p).shift < (paramsOf p).cycle / (paramsOf p).groups
      ∧ -140 ≤ (paramsOf p).lmin ∧ (paramsOf p).lmin ≤ -44 ∧ -24 ≤ (paramsOf p).qmin ∧ (paramsOf p).qmin ≤ 0
      ∧ (paramsOf p).hyst ≤ 24 ∧ -140 ≤ (paramsOf p).search ∧ (paramsOf p).search ≤ -44 ∧ (paramsOf p).kIdle ≤ 7
      ∧ (paramsOf p).kConn ≤ 7 ∧ (paramsOf p).tr ≤ 7 ∧ (paramsOf p).margin ≤ 15 ∧ 1 ≤ (paramsOf p).interval
      ∧ (paramsOf p).interval ≤ 60 ∧ (paramsOf p).repCount ≤ 8 ∧ 30 ≤ (paramsOf p).span ∧ (paramsOf p).span ≤ 240
      ∧ 2 ≤ (paramsOf p).nMed ∧ (paramsOf p).nMed < (paramsOf p).nHigh ∧ (paramsOf p).nHigh ≤ 16
      ∧ (paramsOf p).hMed ≤ 6 ∧ (paramsOf p).hHigh ≤ 6
      ∧ (∀ w ∈ [32, 64, 128, 256], Int.natAbs ((paramsOf p).cycle - u8 p 4 : Int) < Int.natAbs (w - u8 p 4 : Int)
        ∨ Int.natAbs ((paramsOf p).cycle - u8 p 4 : Int) = Int.natAbs (w - u8 p 4 : Int) ∧ ((paramsOf p).cycle : Int) ≤ w)
      ∧ (∀ w ∈ [1, 2, 4, 8, 16, 32], Int.natAbs ((paramsOf p).groups - u8 p 5 : Int) < Int.natAbs (w - u8 p 5 : Int)
        ∨ Int.natAbs ((paramsOf p).groups - u8 p 5 : Int) = Int.natAbs (w - u8 p 5 : Int) ∧ ((paramsOf p).groups : Int) ≤ w)
      ∧ (paramsOf p).shift = min ((paramsOf p).cycle / (paramsOf p).groups - 1) (u8 p 6)
      ∧ (paramsOf p).lmin = max (-140) (min (-44) (-(u8 p 7 : Int))) ∧ (paramsOf p).qmin = max (-24) (min 0 (i8 p 8))
      ∧ (paramsOf p).hyst = min 24 (u8 p 9) ∧ (paramsOf p).search = max (-140) (min (-44) (-(u8 p 10 : Int)))
      ∧ (paramsOf p).kIdle = min 7 (u8 p 11) ∧ (paramsOf p).kConn = min 7 (u8 p 12) ∧ (paramsOf p).tr = min 7 (u8 p 13)
      ∧ (paramsOf p).margin = min 15 (u8 p 14) ∧ (paramsOf p).nRep = u8 p 15
      ∧ (paramsOf p).interval = max 1 (min 60 (u8 p 16)) ∧ (paramsOf p).repCount = min 8 (u8 p 17)
      ∧ (paramsOf p).span = max 30 (min 240 (u8 p 18)) ∧ (paramsOf p).nMed = max 2 (min 15 (u8 p 19))
      ∧ (paramsOf p).nHigh = max ((paramsOf p).nMed + 1) (min 16 (u8 p 20)) ∧ (paramsOf p).hMed = min 6 (u8 p 21)
      ∧ (paramsOf p).hHigh = min 6 (u8 p 22) ∧ ((paramsOf p).barred = true ↔ u8 p 23 ≠ 0)

/-- The filtered level after a clamped level sample M, and likewise the quality after a clamped sample q: the first sample sets
it; a later one moves it by floor(d / 2^k), limited to 12 dB for the level and 6 dB for the quality, and the value is brought
into its range (R87, R88). A sample is clamped, counted to 255 at most, clears the misses and sets the last-sample tick (R86). -/
def Obligations.SamplesAreFiltered : Prop :=
  (∀ (k : Nat) (m : Int), filterLevel k none m = 16 * m)
    ∧ (∀ (k : Nat) (f m : Int),
      filterLevel k (some f) m = max (-2240) (min (-704) (f + max (-192) (min 192 ((16 * m - f).fdiv (2 ^ k))))))
    ∧ (∀ (k : Nat) (q : Int), filterQuality k none q = 8 * q)
    ∧ (∀ (k : Nat) (f q : Int),
      filterQuality k (some f) q = max (-384) (min 0 (f + max (-96) (min 96 ((8 * q - f).fdiv (2 ^ k))))))
    ∧ ∀ (k : Nat) (c : Cell) (p : Sample) (arrival : Tick),
      (∀ f, c.level = some f → -2240 ≤ f ∧ f ≤ -704) →
      ∃ f q, (c.sampled k p.clamped.level p.clamped.quality arrival)
          = { c with level := some f, quality := some q, samples := min 255 (c.samples + 1), misses := 0, lastSample := some arrival }
        ∧ f = filterLevel k c.level (max (-140) (min (-44) p.level)) ∧ q = filterQuality k c.quality (max (-48) (min 0 p.quality))
        ∧ -2240 ≤ f ∧ f ≤ -704 ∧ -384 ≤ q ∧ q ≤ 0

/-- CELL_LIST: for a cell other than the serving one, and in SHELVED, nothing changes. Else, of keys that stand once in the list
and in the table, a named record becomes LISTED with the offset of its entry, SERVING and BARRED ones keeping their role, and one
not named is LISTED no longer; and a single new key is admitted LISTED, at the end of the table (R80). In a full table it takes
the place of the weakest FOUND record, those that step 1 made FOUND among them, which leaves the table, the reported set and the
scan candidates with reason EVICTED; without a FOUND record it is not admitted (R76, R80, R82, R105, R124). That the service
controller, told that a list was applied, does nothing is the model's choice (assumption log, entry 40: DESIGN CHOICE). -/
def Obligations.CellListSetsTheNeighbours : Prop :=
  ∀ (s : State) (r : RxRecord), s.Receives 41 r →
    (s.isServingKey (keyAt r.payload 1) = false ∨ s.svc.state = .shelved → exec .cellList s = .next s.completeRecord)
    ∧ (s.isServingKey (keyAt r.payload 1) = true → s.svc.state ≠ .shelved →
      ((listEntries r.payload).map Prod.fst).Nodup → (∀ e ∈ listEntries r.payload, (s.cell? e.1).isSome = true) →
      exec .cellList s = .next
        { s.completeRecord with meas :=
          { s.meas with cells := s.meas.cells.map fun c =>
            match (listEntries r.payload).find? (·.1 == c.key) with
            | some e =>
              { c with
                offset := e.2
                role := if c.role = .found then .listed else c.role
                before := if c.role = .barred then some .listed else c.before }
            | none =>
              { c with
                offset := if c.role = .listed ∨ c.role = .barred then 0 else c.offset
                role := if c.role = .listed then .found else c.role
                before := if c.role = .barred then some .found else c.before } } })
    ∧ (s.isServingKey (keyAt r.payload 1) = true → s.svc.state ≠ .shelved → ∀ (k : CellKey) (o : Int),
      listEntries r.payload = [(k, o)] → s.cell? k = none → s.meas.cells.length < 16 →
      ∃ t l, exec .cellList s = .next t ∧ t = { s.completeRecord with meas := { s.meas with cells := t.meas.cells } }
        ∧ t.meas.cells = l ++ [Cell.fresh k .listed o] ∧ l.map Cell.key = s.meas.cells.map Cell.key
        ∧ ∀ c ∈ l, c.role ≠ .listed)
    ∧ (s.isServingKey (keyAt r.payload 1) = true → s.svc.state ≠ .shelved → ∀ (k : CellKey) (o : Int) (l : List Cell),
      listEntries r.payload = [(k, o)] → s.cell? k = none → 16 ≤ s.meas.cells.length →
      l = s.meas.cells.map (fun c =>
        { c with
          offset := if c.role = .listed ∨ c.role = .barred then 0 else c.offset
          role := if c.role = .listed then .found else c.role
          before := if c.role = .barred then some .found else c.before }) →
      ((∀ c ∈ l, c.role ≠ .found) →
        exec .cellList s = .next { s.completeRecord with meas := { s.meas with cells := l } })
      ∧ ∀ x : Cell, x.WeakestOf l →
        ∃ t, exec .cellList s = .next t
          ∧ t.meas = { s.meas with cells := l.filter (·.key != x.key) ++ [Cell.fresh k .listed o] } ∧ s.ToldGone t x.key
          ∧ t.line.rxq = s.line.rxq.tail ∧ t.air = s.air ∧ t.pag = s.pag ∧ t.calls = s.calls ∧ t.text = s.text)

/-- MEASURE_REPORT: a report whose id names no open round, or with id 0 out of connection, changes nothing. A report of one sample
of a cell of the table, not BARRED, filters it with the effective k of rounds and adds the key to the round's; one of a new key
adds a FOUND record while there is room, or in a full table in place of the weakest FOUND record, EVICTED, where its level is
higher than that record's, and is dropped otherwise (R81, R82). The last report of a round whose window has ended completes it.
With id 0 in SWITCHING or RETURNING the sample is filtered with the effective k of connected reports (R86, R89, R92, R93, R95). At
its silence deadline a round is skipped, and no miss is counted (R93). A completed round counts a miss on every ordered cell of
the table without a report, but SERVING and BARRED ones: at 4 a LISTED record's values are cleared, and a FOUND one leaves the
table with MISSED and, with it, the reported set and the scan candidates (R76, R94, R105, R124). A round completed in CAMPED is
followed by the idle evaluation: the serving-unsuitable run is counted and the neighbours classed (R109), as the misses leave
them; at a run of 2 the serving cell is lost, to a LOSS camp attempt on the best passing neighbour, or to SCANNING from now
(R110); else the best candidate, at a camp age of 32768 ticks, gets a RESELECT camp attempt (R111), each with its ACCESS window
OFFERED for now + 99 (R106). -/
def Obligations.MeasureReportsAreUsed : Prop :=
  (∀ (s : State) (r : RxRecord), s.Receives 42 r →
    ((u8 r.payload 1 = 0 ∧ s.svc.state ∉ [.linked, .switching, .returning])
        ∨ (u8 r.payload 1 ≠ 0 ∧ ∀ q, s.round? (u8 r.payload 1) = some q → q.lastTaken = true) →
      exec .measureReport s = .next s.completeRecord)
    ∧ ∀ (p : Sample), samplesAt r.payload 4 5 (u8 r.payload 3) = [p] →
      (∀ (q : Round) (c : Cell), u8 r.payload 1 ≠ 0 → s.round? (u8 r.payload 1) = some q → q.lastTaken = false →
        s.cell? p.key = some c → c.role ≠ .barred →
        ((u8 r.payload 2).testBit 0 = false ∨ q.outcome = none →
          exec .measureReport s = .next
            { s.completeRecord with meas :=
              { s.meas with
                cells := s.meas.cells.map fun d =>
                  if d.key == p.key then
                    d.sampled (effectiveK s.meas.params.kIdle s.svc.mobility) p.clamped.level p.clamped.quality r.arrival
                  else d
                rounds := s.meas.rounds.map fun d =>
                  if d.id == q.id then
                    { d with reported := d.reported ++ [p.key], lastTaken := (u8 r.payload 2).testBit 0 }
                  else d } })
        ∧ ((u8 r.payload 2).testBit 0 = true → q.outcome = some .fullTime → q.order = some [p.key] → q.req = .sent →
          s.svc.state ∉ [.camped, .scanning] →
          exec .measureReport s = .next
            { s.completeRecord with meas :=
              { s.meas with
                cells := s.meas.cells.map fun d =>
                  if d.key == p.key then
                    d.sampled (effectiveK s.meas.params.kIdle s.svc.mobility) p.clamped.level p.clamped.quality r.arrival
                  else d
                rounds := s.meas.rounds.filter (·.id != q.id) } }))
      ∧ (∀ q : Round, u8 r.payload 1 ≠ 0 → s.round? (u8 r.payload 1) = some q → q.lastTaken = false → s.cell? p.key = none →
        s.meas.cells.length < 16 → q.outcome = none →
        ∃ t, exec .measureReport s = .next t
          ∧ t.meas.cells = s.meas.cells ++ [(Cell.fresh p.key .found 0).sampled
            (effectiveK s.meas.params.kIdle s.svc.mobility) p.clamped.level p.clamped.quality r.arrival])
      ∧ (∀ (q : Round) (rounds : List Round), u8 r.payload 1 ≠ 0 → s.round? (u8 r.payload 1) = some q → q.lastTaken = false →
        s.cell? p.key = none → 16 ≤ s.meas.cells.length → q.outcome = none →
        rounds = s.meas.rounds.map (fun d =>
          if d.id == q.id then
            { d with reported := d.reported ++ [p.key], lastTaken := (u8 r.payload 2).testBit 0 }
          else d) →
        ((∀ c ∈ s.meas.cells, c.role ≠ .found)
            ∨ (∃ x : Cell, x.WeakestOf s.meas.cells ∧ levelBelow x.level (some (16 * p.clamped.level)) = false) →
          exec .measureReport s = .next { s.completeRecord with meas := { s.meas with rounds := rounds } })
        ∧ ∀ x : Cell, x.WeakestOf s.meas.cells → levelBelow x.level (some (16 * p.clamped.level)) = true →
          ∃ t, exec .measureReport s = .next t
            ∧ t.meas = { s.meas with
                rounds := rounds
                cells := s.meas.cells.filter (·.key != x.key) ++ [(Cell.fresh p.key .found 0).sampled
                  (effectiveK s.meas.params.kIdle s.svc.mobility) p.clamped.level p.clamped.quality r.arrival] }
            ∧ s.ToldGone t x.key ∧ t.line.rxq = s.line.rxq.tail ∧ t.air = s.air ∧ t.pag = s.pag ∧ t.calls = s.calls
            ∧ t.text = s.text)
      ∧ ∀ c : Cell, u8 r.payload 1 = 0 → s.svc.state ∈ [.switching, .returning] → s.cell? p.key = some c → c.role ≠ .barred →
        exec .measureReport s = .next
          { s.completeRecord with meas :=
            { s.meas with
              cells := s.meas.cells.map fun d =>
                if d.key == p.key then
                  d.sampled (effectiveK s.meas.params.kConn s.svc.mobility) p.clamped.level p.clamped.quality r.arrival
                else d } })
  ∧ ∀ (id : Nat) (s : State) (q : Round) (tk : Tick), s.Ready → s.round? id = some q → q.silence = some tk → q.req = .sent →
    s.svc.state ≠ .scanning →
    exec (.roundSilenceDeadline id) s = .next
      { s.reach tk with meas := { s.meas with rounds := s.meas.rounds.filter (·.id != id) } }
  ∧ (∀ (s : State) (r : RxRecord) (q : Round), s.LastReport r q → s.CellsHold → (q.order.getD []).Nodup →
    (s.svc.state ∉ [.camped, .scanning] →
      ∃ t, exec .measureReport s = .next t
        ∧ t.meas = { s.meas with cells := s.afterMisses q, rounds := s.meas.rounds.filter (·.id != q.id) }
        ∧ t.ho.reported = s.ho.reported.filter (fun k => !(s.cell? k).any fun c => q.lacks c && c.afterMiss.isNone)
        ∧ t.svc = { s.svc with scan := s.svc.scan.map fun v => { v with
            candidates := v.candidates.filter fun k => !(s.cell? k).any fun c => q.lacks c && c.afterMiss.isNone } }
        ∧ t.line.rxq = s.line.rxq.tail ∧ t.air = s.air ∧ t.pag = s.pag ∧ t.calls = s.calls ∧ t.text = s.text)
    ∧ ∀ (u : State) (run : Nat), s.svc.state = .camped → s.svc.scan = none → s.ho.reported = [] →
      u = { s with meas := { s.meas with cells := s.afterMisses q } } →
      run = (if s.servingTest then 0 else min 2 (s.svc.unsuitable + 1)) → run < 2 →
      ((∀ tk, s.svc.campTick = some tk → elapsed s.now tk < 32768) ∨ ∀ d ∈ u.meas.cells, u.idleCandidate d = false) →
      exec .measureReport s = .next
        { s.completeRecord with
          meas := { s.meas with cells := u.classed, rounds := s.meas.rounds.filter (·.id != q.id) }
          svc := { s.svc with unsuitable := run } })
  ∧ ∀ (s : State) (r : RxRecord) (q : Round) (run : Nat), s.Completes r q → s.svc.state = .camped →
    run = (if s.servingTest then 0 else min 2 (s.svc.unsuitable + 1)) →
    (run < 2 → ((∀ tk, s.svc.campTick = some tk → elapsed s.now tk < 32768) ∨ ∀ d ∈ s.meas.cells, s.idleCandidate d = false) →
      exec .measureReport s = .next
        { s.completeRecord with
          meas := { s.meas with cells := s.classed, rounds := s.meas.rounds.filter (·.id != q.id) }
          svc := { s.svc with unsuitable := run } })
    ∧ (∀ (c : Cell) (purpose : CampPurpose), s.PlanClear → s.pag.info = none →
      (run = 2 ∧ purpose = .loss ∧ c.RanksFirst (s.meas.cells.filter (·.neighbourTest s.meas.params))
        ∨ run < 2 ∧ purpose = .reselect ∧ c.RanksFirst (s.meas.cells.filter s.idleCandidate)
          ∧ ∃ tk, s.svc.campTick = some tk ∧ 32768 ≤ elapsed s.now tk) →
      ∃ t id, exec .measureReport s = .next t
        ∧ t.svc = { s.svc with
            state := .camping, unsuitable := if run = 2 then 0 else run
            camp := some
              { target := c.key, purpose := purpose, barredOrigin := s.meas.params.barred, notRun := 0, peerBlocked := false
                peerStation := none, window := some id, req := .unbuilt, deadline := none } }
        ∧ t.Offers .service .access id (after s.now 99) (after (after s.now 99) 3277)
        ∧ t.meas = { s.meas with cells := s.classed, rounds := s.meas.rounds.filter (·.id != q.id) }
        ∧ t.air.anchor = s.air.anchor ∧ t.pag.running = false ∧ t.pag.cycles = [] ∧ t.ho = s.ho ∧ t.calls = s.calls
        ∧ t.text = s.text)
    ∧ (run = 2 → s.PlanClear → s.pag.info = none → (∀ d ∈ s.meas.cells, d.neighbourTest s.meas.params = false) →
      ∃ t id, exec .measureReport s = .next t
        ∧ t.svc = { s.svc with
            state := .scanning, reported := some .scanning, campTick := none, unsuitable := 0, camp := none, conn := Conn.idle
            scan := some { Scan.fresh with window := some id } }
        ∧ t.Offers .service .scan id (after s.now 99) (after (after s.now 99) 16384)
        ∧ t.meas = { s.meas with cells := s.classed.map Cell.demoted, rounds := s.meas.rounds.filter (·.id != q.id) }
        ∧ t.air.anchor = none ∧ t.pag.running = false ∧ t.pag.cycles = [] ∧ t.ho = s.ho ∧ t.calls = s.calls
        ∧ t.text = s.text
        ∧ (s.enabled .serviceChanged = true → s.svc.reported = some .camped → t.Notes .serviceChanged))

/-! ### Scanning and camping -/

/-- SCAN_RETRY: the SCAN window is requested again from now: with a clear plan it is OFFERED for now + 99 with a length of 16384
ticks, and where it is refused FULL, with a plan of 8 windows none of which is less urgent, the retry tick is set 32768 ticks on
(R62). SCAN_RESULT_DEADLINE, a SCAN_RESULT without a candidate, and a confirming round skipped SILENT make the scan fruitless:
the backoff doubles, to 1048576 at most, and a fresh scan begins with its window PLANNED at now + backoff (R102 to R105). -/
def Obligations.ScansAreRepeated : Prop :=
  (∀ (s : State) (c : Scan) (tk : Tick), s.Ready → s.svc.scan = some c → c.retry = some tk →
    (s.PlanClear → ∃ t id, exec .scanRetry s = .next t
      ∧ t.svc = { s.svc with scan := some { c with window := some id, order := .unbuilt, deadline := none, retry := none } }
      ∧ t.Offers .service .scan id (after (s.reach tk).now 99) (after (after (s.reach tk).now 99) 16384)
      ∧ t.meas = s.meas ∧ t.ho = s.ho ∧ t.pag = s.pag ∧ t.calls = s.calls ∧ t.text = s.text ∧ t.cmd = s.cmd)
    ∧ (8 ≤ s.air.plan.length → (∀ w ∈ s.air.plan, w.cls ≤ WinKind.scan.cls) →
      exec .scanRetry s = .next
        { s.reach tk with svc :=
          { s.svc with
            scan := some
              { c with window := none, order := .unbuilt, deadline := none, retry := some (after (s.reach tk).now 32768) } } }))
  ∧ (∀ (s : State) (c : Scan) (tk : Tick), s.Ready → s.PlanClear → s.svc.scan = some c → c.deadline = some tk →
    32768 < 2 * s.svc.backoff →
    ∃ t id, exec .scanResultDeadline s = .next t
      ∧ t.svc = { s.svc with
          backoff := min 1048576 (2 * s.svc.backoff), scan := some { Scan.fresh with window := some id } }
      ∧ t.Plans .service .scan id (after (s.reach tk).now (min 1048576 (2 * s.svc.backoff)))
        (after (after (s.reach tk).now (min 1048576 (2 * s.svc.backoff))) 16384) .planned
      ∧ t.line = s.line ∧ t.meas = s.meas ∧ t.ho = s.ho ∧ t.pag = s.pag ∧ t.calls = s.calls ∧ t.text = s.text
      ∧ t.cmd = s.cmd)
  ∧ (∀ (s : State) (r : RxRecord) (c : Scan) (tk : Tick), s.Receives 43 r → s.PlanClear → s.svc.state = .scanning →
    s.svc.scan = some c → c.window = some (u8 r.payload 1) → c.deadline = some tk → u8 r.payload 2 = 0 →
    32768 < 2 * s.svc.backoff →
    ∃ t id, exec .scanResult s = .next t
      ∧ t.svc = { s.svc with
          backoff := min 1048576 (2 * s.svc.backoff), scan := some { Scan.fresh with window := some id } }
      ∧ t.Plans .service .scan id (after s.now (min 1048576 (2 * s.svc.backoff)))
        (after (after s.now (min 1048576 (2 * s.svc.backoff))) 16384) .planned
      ∧ t.meas = s.meas)
  ∧ ∀ (id : Nat) (s : State) (c : Scan) (q : Round) (tk : Tick), s.Ready → s.PlanClear → s.svc.state = .scanning →
    s.svc.scan = some c → c.confirm = some id → s.round? id = some q → q.silence = some tk → q.req = .sent →
    32768 < 2 * s.svc.backoff →
    ∃ t n, exec (.roundSilenceDeadline id) s = .next t
      ∧ t.svc = { s.svc with
          backoff := min 1048576 (2 * s.svc.backoff), scan := some { Scan.fresh with window := some n } }
      ∧ t.Plans .service .scan n (after (s.reach tk).now (min 1048576 (2 * s.svc.backoff)))
        (after (after (s.reach tk).now (min 1048576 (2 * s.svc.backoff))) 16384) .planned
      ∧ t.meas = { s.meas with rounds := s.meas.rounds.filter (·.id != id) }

/-- SCAN_RESULT: in another state than SCANNING it changes nothing. One that names another window than the one awaited filters
its samples, and bars the cells it flags for 9830400 ticks. One for the window awaited that finds a passing cell ends the scan
and begins a camp attempt on it, its ACCESS window OFFERED for now + 99 with a length of 3277 ticks (R85, R96, R103, R104,
R106). Where the cell lacks its second sample alone, a confirming round of scope FULL is asked for, its MEASURE window OFFERED for
now + 99, and when that round is completed a candidate that passes by then is camped on (R105). -/
def Obligations.ScanResultsFindACell : Prop :=
  (∀ (s : State) (r : RxRecord), s.Receives 43 r →
    (s.svc.state ≠ .scanning → exec .scanResult s = .next s.completeRecord)
    ∧ (s.svc.state = .scanning → ∀ (p : Sample) (flagged : Bool) (c : Cell), scanEntries r.payload = [(p, flagged)] →
      s.cell? p.key = some c → (∀ d ∈ s.meas.cells, d.key = p.key → d = c) →
      (c.role = .listed ∨ c.role = .found → (∀ q, s.svc.scan = some q → q.window ≠ some (u8 r.payload 1)) →
        exec .scanResult s = .next
          { s.completeRecord with meas :=
            { s.meas with
              cells := s.meas.cells.map fun d =>
                if d.key == p.key then
                  (if flagged then
                    { d.sampled (effectiveK s.meas.params.kIdle s.svc.mobility) p.clamped.level p.clamped.quality r.arrival with
                      role := .barred, before := some d.role, barredUntil := some (after s.now 9830400), betterSince := none }
                  else d.sampled (effectiveK s.meas.params.kIdle s.svc.mobility) p.clamped.level p.clamped.quality r.arrival)
                else d } })
      ∧ ∀ (q : Scan) (tk : Tick), s.PlanClear → flagged = false → s.svc.scan = some q → q.window = some (u8 r.payload 1) →
        q.deadline = some tk →
        (c.sampled (effectiveK s.meas.params.kIdle s.svc.mobility) p.clamped.level p.clamped.quality r.arrival).neighbourTest
          s.meas.params = true →
        ∃ t id, exec .scanResult s = .next t
          ∧ t.svc = { s.svc with
              state := .camping, scan := none
              camp := some
                { target := p.key, purpose := .scan, barredOrigin := false, notRun := 0, peerBlocked := false,
                  peerStation := none, window := some id, req := .unbuilt, deadline := none } }
          ∧ t.Offers .service .access id (after s.now 99) (after (after s.now 99) 3277)
          ∧ t.meas.params = s.meas.params ∧ t.ho = s.ho ∧ t.pag = s.pag ∧ t.calls = s.calls ∧ t.text = s.text
          ∧ t.cmd = s.cmd)
    ∧ (s.svc.state = .scanning → ∀ (p : Sample) (c d : Cell) (q : Scan) (tk : Tick) (n : Nat),
      scanEntries r.payload = [(p, false)] → s.cell? p.key = some c → (∀ e ∈ s.meas.cells, e.key = p.key → e = c) →
      c.neighbour = true → c.samples = 0 → s.PlanClear → s.meas.rounds = [] → s.svc.scan = some q →
      q.window = some (u8 r.payload 1) → q.deadline = some tk →
      d = c.sampled (effectiveK s.meas.params.kIdle s.svc.mobility) p.clamped.level p.clamped.quality r.arrival →
      d.strong s.meas.params = true → n = min 16 (max 1 (s.meas.cells.filter (·.role != .barred)).length) →
      ∃ t id, exec .scanResult s = .next t
        ∧ t.svc = { s.svc with
            scan := some { q with window := none, deadline := none, candidates := [p.key], confirm := some id } }
        ∧ t.Offers .service .measure id (after s.now 99) (after (after s.now 99) (33 + 16 * n))
        ∧ t.meas = { s.meas with
            cells := s.meas.cells.map fun e => if e.key == p.key then d else e
            rounds := [{ id := id, start := after s.now 99, len := 33 + 16 * n, capacity := n, order := none, req := .unbuilt
                         reported := [], lastTaken := false, outcome := none, silence := none }] }
        ∧ t.ho = s.ho ∧ t.pag = s.pag ∧ t.calls = s.calls ∧ t.text = s.text))
  ∧ ∀ (s : State) (r : RxRecord) (q : Round) (c : Scan) (d : Cell), s.Completes r q → s.svc.state = .scanning → s.PlanClear →
    s.svc.scan = some c → c.confirm = some q.id → c.candidates = [d.key] → s.cell? d.key = some d →
    d.neighbourTest s.meas.params = true →
    ∃ t id, exec .measureReport s = .next t
      ∧ t.svc = { s.svc with
          state := .camping, scan := none
          camp := some
            { target := d.key, purpose := .scan, barredOrigin := false, notRun := 0, peerBlocked := false,
              peerStation := none, window := some id, req := .unbuilt, deadline := none } }
      ∧ t.Offers .service .access id (after s.now 99) (after (after s.now 99) 3277)
      ∧ t.meas = { s.meas with rounds := s.meas.rounds.filter (·.id != q.id) } ∧ t.ho = s.ho ∧ t.pag = s.pag
      ∧ t.calls = s.calls ∧ t.text = s.text

/-- CAMP_RESULT: one that is not awaited changes nothing. A success makes the target SERVING, with its parameters at their
defaults, its anchor and its camp tick, and the part CAMPED with its watches running; with no need raised it stays so (R107).
A failure, or CAMP_RESULT_DEADLINE, penalises the target for 983040 ticks, and an attempt begun from SCANNING falls back to it
with the backoff doubled, the anchor cleared and a fresh scan PLANNED at now + backoff (R84, R102, R108). One begun for RESELECT
or LOSS returns to CAMPED with its camp tick and anchor where the serving cell passes the serving test, and else enters SCANNING
with a scan from now. An ACCESS window still ACTIVE is released with a WITHDRAW (R67). That the mobility ring's entry has the
arrival tick is the model's reading (R112; assumption log, entry 28). -/
def Obligations.CampAttemptsEnd : Prop :=
  (∀ (s : State) (r : RxRecord), s.Receives 45 r →
    (∀ c, s.svc.camp = some c → s.svc.state = .camping → c.req = .sent → keyAt r.payload 1 = c.target → False) →
    exec .campResult s = .next s.completeRecord)
  ∧ (∀ (s : State) (r : RxRecord) (c : Camp), s.Receives 45 r → s.PlanOnly .service c.window → s.svc.camp = some c →
    s.svc.state = .camping → c.req = .sent → keyAt r.payload 1 = c.target → (s.cell? c.target).isSome = true →
    s.pag.running = false → s.meas.rounds = [] →
    (u8 r.payload 4 = 0 → s.svc.anyNeed = false → c.barredOrigin = false →
      ∃ t, exec .campResult s = .next t ∧ t.svc.state = .camped ∧ t.svc.reported = some .camped ∧ t.svc.camp = none
        ∧ t.svc.campTick = some r.arrival ∧ t.svc.unsuitable = 0 ∧ t.svc.backoff = 65536
        ∧ t.svc.ring.getLast?.map (fun e => (e.tick, e.source, e.target)) = some (r.arrival, s.serving?.map (·.key), c.target)
        ∧ t.meas.params = Params.default
        ∧ t.meas.cells = s.meas.cells.map (fun d => if d.key == c.target then d.promoted else d.demoted)
        ∧ t.air.anchor = some
          { frame := u16 r.payload 6, tick := r.arrival + BitVec.ofInt 32 (i16 r.payload 8), phase := min 24 (u8 r.payload 10) }
        ∧ t.pag.running = true ∧ t.line.rxq = s.line.rxq.tail ∧ t.ho = s.ho ∧ t.calls = s.calls ∧ t.text = s.text
        ∧ (∀ w ∈ s.air.plan, s.line.Sends t.line w.cls 2 [255, byte w.id, 0, 0])
        ∧ (s.enabled .cellChanged = true → t.Notes .cellChanged)
        ∧ (s.enabled .serviceChanged = true → s.svc.reported = some .scanning → t.Notes .serviceChanged))
    ∧ (u8 r.payload 4 ≠ 0 → c.purpose = .scan → c.peerBlocked = false → 32768 < 2 * s.svc.backoff →
      ∃ t id, exec .campResult s = .next t ∧ t.svc.state = .scanning ∧ t.svc.camp = none ∧ t.svc.campTick = none
        ∧ t.svc.backoff = min 1048576 (2 * s.svc.backoff) ∧ t.svc.scan = some { Scan.fresh with window := some id }
        ∧ t.Plans .service .scan id (after s.now (min 1048576 (2 * s.svc.backoff)))
          (after (after s.now (min 1048576 (2 * s.svc.backoff))) 16384) .planned
        ∧ t.air.anchor = none
        ∧ t.meas.cells = s.meas.cells.map (fun d =>
          if d.key == c.target ∧ d.role ≠ .serving then { d with penalty := 16, penaltyUntil := some (after s.now 983040) }
          else d.demoted)
        ∧ (∀ w ∈ s.air.plan, s.line.Sends t.line w.cls 2 [255, byte w.id, 0, 0])
        ∧ t.calls = s.calls ∧ t.text = s.text))
  ∧ (∀ (s : State) (c : Camp) (i : Instr) (now : Tick), s.Ready → s.PlanOnly .service c.window → s.svc.camp = some c →
    s.svc.state = .camping → c.req = .sent → c.purpose ≠ .scan → c.peerBlocked = false → s.pag.running = false →
    s.meas.rounds = [] →
    ((∃ r, i = .campResult ∧ s.Receives 45 r ∧ keyAt r.payload 1 = c.target ∧ u8 r.payload 4 ≠ 0 ∧ now = s.now)
      ∨ ∃ tk, i = .campResultDeadline ∧ c.deadline = some tk ∧ now = (s.reach tk).now) →
    (s.servingTest = true → s.svc.anyNeed = false →
      ∃ t, exec i s = .next t
        ∧ t.svc = { s.svc with state := .camped, reported := some .camped, unsuitable := 0, camp := none }
        ∧ t.air.anchor = s.air.anchor ∧ t.pag.running = true ∧ t.meas.params = s.meas.params
        ∧ t.meas.cells = s.meas.cells.map (fun d =>
          if d.key == c.target ∧ d.role ≠ .serving then { d with penalty := 16, penaltyUntil := some (after now 983040) } else d)
        ∧ (∀ w ∈ s.air.plan, s.line.Sends t.line w.cls 2 [255, byte w.id, 0, 0])
        ∧ t.ho = s.ho ∧ t.calls = s.calls ∧ t.text = s.text)
    ∧ (s.servingTest = false →
      ∃ t id, exec i s = .next t
        ∧ t.svc = { s.svc with
            state := .scanning, reported := some .scanning, campTick := none, unsuitable := 0, camp := none, conn := Conn.idle
            scan := some { Scan.fresh with window := some id } }
        ∧ t.Offers .service .scan id (after now 99) (after (after now 99) 16384) ∧ t.air.anchor = none
        ∧ t.meas.cells = s.meas.cells.map (fun d =>
          if d.key == c.target ∧ d.role ≠ .serving then { d with penalty := 16, penaltyUntil := some (after now 983040) }
          else d.demoted)
        ∧ (∀ w ∈ s.air.plan, s.line.Sends t.line w.cls 2 [255, byte w.id, 0, 0])
        ∧ t.ho = s.ho ∧ t.pag = s.pag ∧ t.calls = s.calls ∧ t.text = s.text
        ∧ (s.enabled .serviceChanged = true → s.svc.reported = some .camped → t.Notes .serviceChanged)))
  ∧ ∀ (s : State) (c : Camp) (tk : Tick), s.Ready → s.PlanClear → s.svc.camp = some c → s.svc.state = .camping →
    c.req = .sent → c.window = none → c.deadline = some tk → c.purpose = .scan → c.peerBlocked = false →
    32768 < 2 * s.svc.backoff →
    ∃ t id, exec .campResultDeadline s = .next t ∧ t.svc.state = .scanning ∧ t.svc.camp = none ∧ t.svc.campTick = none
      ∧ t.svc.backoff = min 1048576 (2 * s.svc.backoff) ∧ t.svc.scan = some { Scan.fresh with window := some id }
      ∧ t.Plans .service .scan id (after (s.reach tk).now (min 1048576 (2 * s.svc.backoff)))
        (after (after (s.reach tk).now (min 1048576 (2 * s.svc.backoff))) 16384) .planned
      ∧ t.air.anchor = none
      ∧ t.meas.cells = s.meas.cells.map (fun d =>
        if d.key == c.target ∧ d.role ≠ .serving then
          { d with penalty := 16, penaltyUntil := some (after (s.reach tk).now 983040) }
        else d.demoted)
      ∧ t.calls = s.calls ∧ t.text = s.text

/-- MOBILITY_COUNT_EXPIRY may begin the calm: with the count below the state's threshold an absent calm-since becomes now; in
NORMAL, which has no threshold, and with the count at the threshold it stays as it is, since an entry that leaves makes the count
no higher. MOBILITY_FALL clears it and the state falls to what the count indicates, which MOBILITY-CHANGED tells (R113, R114). -/
def Obligations.MobilityFallsAfterCalm : Prop :=
  (∀ (s : State) (e : RingEntry), s.Ready → s.svc.ring.find? (fun d => d.counted && d.tick == e.tick) = some e →
    exec (.mobilityCountExpiry e.tick) s = .next
      { s.reach (after e.tick (s.meas.params.span * 32768)) with
        svc :=
          { s.svc with
            calmSince := match s.threshold with
              | none => s.svc.calmSince
              | some n =>
                if (s.reach (after e.tick (s.meas.params.span * 32768))).mobCount < n then
                  some (s.svc.calmSince.getD (s.reach (after e.tick (s.meas.params.span * 32768))).now)
                else s.svc.calmSince } })
  ∧ ∀ (s : State) (since : Tick), s.Ready → s.svc.calmSince = some since →
    ∃ t n, exec .mobilityFall s = .next t ∧ n = (s.reach (after since (s.meas.params.span * 16384))).mobCount
      ∧ t.svc = { s.svc with
          calmSince := none
          mobility := if s.meas.params.nHigh ≤ n then .high else if s.meas.params.nMed ≤ n then .medium else .normal }
      ∧ (t.svc.mobility ≠ s.svc.mobility → s.enabled .mobilityChanged = true → t.Notes .mobilityChanged)
      ∧ t.air = (s.reach (after since (s.meas.params.span * 16384))).air ∧ t.meas = s.meas ∧ t.ho = s.ho ∧ t.pag = s.pag
      ∧ t.calls = s.calls ∧ t.text = s.text

/-! ### The radio connection -/

/-- LINK_RESULT, LINK_RESULT_DEADLINE and, in CONNECTING, LINK_DROPPED: a result that is not awaited changes nothing; a success
enters LINKED, lowers the PAGE need, starts the absence measure and requests the first TRAFFIC window, and no call stays
DIALING; a first or second failure starts a new attempt, its ACCESS window OFFERED for now + 99 with a length of 1311 ticks;
and the third returns the part to CAMPED with the PAGE need lowered (R115 to R117, R168). -/
def Obligations.LinkAttemptsEnd : Prop :=
  (∀ (s : State) (r : RxRecord), s.Receives 46 r → (s.svc.state ≠ .connecting ∨ s.svc.conn.req ≠ .sent) →
    exec .linkResult s = .next s.completeRecord)
  ∧ (∀ (s : State) (r : RxRecord), s.Receives 46 r → s.PlanClear → s.svc.state = .connecting → s.svc.conn.req = .sent →
    s.svc.conn.window = none → u8 r.payload 1 = 0 →
    ∃ t id, exec .linkResult s = .next t
      ∧ t.svc = { s.svc with
          state := .linked, reported := some .linked, needPage := none, conn := Conn.idle
          traffic := { s.svc.traffic with
            accrued := 0, since := some s.now, gapFlag := false
            close := if s.svc.needCall || s.svc.needText || s.svc.needStore then none else some (after s.now 65536) } }
      ∧ t.Offers .service .traffic id (after s.now 99) (after (after s.now 99) 16384)
      ∧ (∀ c ∈ t.calls.table, c.state ≠ .dialing) ∧ t.ho.reported = [] ∧ t.ho.nextReport = none ∧ t.ho.count = 0
      ∧ t.pag = s.pag ∧ t.line.rxq = s.line.rxq.tail)
  ∧ (∀ (s : State) (c : Instr) (now : Tick), s.Ready → s.PlanClear → s.svc.state = .connecting → s.svc.conn.req = .sent →
    s.svc.conn.window = none →
    ((∃ r, c = .linkResult ∧ s.Receives 46 r ∧ u8 r.payload 1 ≠ 0 ∧ now = s.now)
      ∨ (∃ r, c = .linkDropped ∧ s.Receives 53 r ∧ now = s.now)
      ∨ ∃ tk, c = .linkResultDeadline ∧ s.svc.conn.deadline = some tk ∧ now = (s.reach tk).now) →
    (s.svc.conn.retries < 2 → ∃ t id, exec c s = .next t
      ∧ t.svc = { s.svc with conn := { s.svc.conn with
          retries := s.svc.conn.retries + 1, window := some id, req := .unbuilt, deadline := none } }
      ∧ t.Offers .service .access id (after now 99) (after (after now 99) 1311)
      ∧ t.meas = s.meas ∧ t.ho = s.ho ∧ t.pag = s.pag ∧ t.calls = s.calls ∧ t.text = s.text)
    ∧ (s.svc.conn.retries = 2 → s.svc.conn.peerBlocked = false → s.svc.needCall = false → s.svc.needText = false →
      s.svc.needStore = false → s.calls.table = [] → s.text.outbound = [] → s.text.exchange = .none → s.meas.rounds = [] →
      ∃ t, exec c s = .next t ∧ t.svc.state = .camped ∧ t.svc.needPage = none ∧ t.svc.conn.retries = 0
        ∧ t.pag.running = true ∧ t.calls = s.calls ∧ t.text = s.text))
  ∧ ∀ (s : State) (r : RxRecord), s.Receives 53 r →
    s.svc.state ∉ [.connecting, .linked, .switching, .returning] → exec .linkDropped s = .next s.completeRecord

/-- CONNECTION_LOSS, and LINK_DROPPED in LINKED: every TRAFFIC window leaves the plan, the PAGE need is lowered, every call and
every text QUEUED or SENDING is removed, an owed STORE-AVAILABLE goes to RETRY, and the part is CAMPED where the serving cell
passes the serving test, else SCANNING (R118, R180, R195, R204). LINK_DROPPED in SWITCHING and RETURNING first abandons the switch:
its SWITCH window, its record and the held uplink go, and the timers run again; an OFFERED window's CLAIM goes with it, a WITHDRAW
being owed where that is being sent, and one STANDING or ACTIVE is withdrawn (R67, R68, R118, R136, R138). -/
def Obligations.ConnectionIsLost : Prop :=
  (∀ (s : State) (c : Instr), s.Ready → s.air.peers = [] → (∀ w ∈ s.air.plan, w.owner = .service ∧ w.kind = .traffic) →
    s.meas.rounds = [] → s.svc.state = .linked → s.svc.needStore = s.text.exchange.needsStore →
    ((∃ since, c = .connectionLoss ∧ s.svc.traffic.since = some since) ∨ ∃ r, c = .linkDropped ∧ s.Receives 53 r) →
    ∃ t, exec c s = .next t ∧ (∀ w ∈ t.air.plan, w.kind ≠ .traffic) ∧ t.svc.needPage = none ∧ t.svc.needCall = false
      ∧ t.svc.needText = false ∧ t.svc.needStore = false ∧ t.calls.table = [] ∧ t.calls.deferred = none ∧ t.calls.pair = none
      ∧ (∀ o ∈ t.text.outbound, o ∈ s.text.outbound ∧ o.state = .composing)
      ∧ t.text.exchange = (if s.text.exchange.needsStore then .retry else s.text.exchange)
      ∧ t.text.store = s.text.store ∧ t.svc.state = (if s.servingTest then .camped else .scanning)
      ∧ t.svc.reported = some t.svc.state ∧ t.meas.params = s.meas.params ∧ t.ho.reported = []
      ∧ (s.calls.table ≠ [] → s.enabled .callCleared = true → t.Notes .callCleared))
  ∧ ∀ (s : State) (r : RxRecord) (c : Switch), s.Receives 53 r → s.svc.state = .switching ∨ s.svc.state = .returning →
    s.air.peers = [] → s.meas.rounds = [] → s.ho.switch = some c → s.svc.needStore = s.text.exchange.needsStore →
    (∀ w ∈ s.air.plan, (w.owner = .service ∧ w.kind = .traffic ∧ c.window ≠ some w.id)
      ∨ (w.owner = .handover ∧ w.kind = .switch ∧ c.window = some w.id)) →
    ∃ t, exec .linkDropped s = .next t ∧ (∀ w ∈ t.air.plan, w.kind ≠ .traffic ∧ w.kind ≠ .switch) ∧ t.ho = Handover.reset
      ∧ (∀ w, s.windowOf c.window = some w →
        (w.state = .standing ∨ w.state = .active → s.line.Sends t.line w.cls 2 [255, byte w.id, 0, 0])
        ∧ ∀ n, w.state = .offered → w.claim = some n → n < s.line.nextSerial →
          ((∀ e ∈ s.line.txq, e.serial ≠ n) ∨ ∀ e ∈ s.line.held, e.serial ≠ n) →
          (s.line.isBeingSent n = false → ∀ e ∈ t.line.txq ++ t.line.held, e.serial ≠ n)
            ∧ (s.line.isBeingSent n = true → (⟨n, w.id, w.cls⟩ : Owed) ∈ t.air.owed))
      ∧ t.svc.needPage = none ∧ t.svc.needCall = false ∧ t.svc.needText = false ∧ t.svc.needStore = false
      ∧ t.calls.table = [] ∧ t.calls.deferred = none ∧ t.calls.pair = none ∧ t.calls.timersHeld = false
      ∧ t.text.timersHeld = false ∧ (∀ o ∈ t.text.outbound, o.state = .composing) ∧ t.text.store = s.text.store
      ∧ t.text.exchange = (if s.text.exchange.needsStore then .retry else s.text.exchange)
      ∧ (∀ n, c.req = .offered n → n < s.line.nextSerial → s.line.isBeingSent n = false →
        ((∀ e ∈ s.line.txq, e.serial ≠ n) ∨ ∀ e ∈ s.line.held, e.serial ≠ n) →
        ∀ e ∈ t.line.txq ++ t.line.held, e.serial ≠ n)
      ∧ t.svc.state = (if s.servingTest then .camped else .scanning) ∧ t.svc.reported = some t.svc.state
      ∧ t.meas.params = s.meas.params ∧ (s.calls.table ≠ [] → s.enabled .callCleared = true → t.Notes .callCleared)

/-- CHUNK_RETRY and CHUNK_RENEWAL request the next TRAFFIC window, from now and from the end of the latest. GAP_CHECK sets its
flag, and a TRAFFIC window not yet ACTIVE is given up for one from now: one PLANNED leaves the plan, one OFFERED with its CLAIM, a
WITHDRAW being owed where that is being sent, and one STANDING is withdrawn (R67, R68); with no TRAFFIC window in the plan nothing
more is done, which is the model's reading (assumption log, entry 29). IDLE_CLOSE in LINKED gives up the TRAFFIC window, sends
LINK-CLOSE and returns the part to CAMPED; in SWITCHING and RETURNING the close waits (R117 to R119). That a running absence is
not begun again when a TRAFFIC window is released, at the gap check and at the idle close alike, is the model's reading of R118
(assumption log, entry 16). -/
def Obligations.TrafficIsKept : Prop :=
  (∀ (s : State) (tk : Tick), s.Ready → s.svc.traffic.retry = some tk →
    (s.svc.state ≠ .linked → exec .chunkRetry s = .next
      { s.reach tk with svc := { s.svc with traffic := { s.svc.traffic with retry := none } } })
    ∧ (s.svc.state = .linked → s.PlanClear → ∃ t id, exec .chunkRetry s = .next t
      ∧ t.svc = { s.svc with traffic := { s.svc.traffic with retry := none } }
      ∧ t.Offers .service .traffic id (after (s.reach tk).now 99) (after (after (s.reach tk).now 99) 16384)
      ∧ t.meas = s.meas ∧ t.ho = s.ho ∧ t.pag = s.pag ∧ t.calls = s.calls ∧ t.text = s.text))
  ∧ (∀ (id : Nat) (s : State) (w : Window), s.Ready → s.air.plan = [w] → s.air.peers = [] → s.svc.state = .linked →
    s.activeChunk id = some w → w.cls = 1 → s.now = before w.stop 8192 →
    ∃ t n, exec (.chunkRenewal id) s = .next t ∧ t.svc = s.svc ∧ t.Offers .service .traffic n w.stop (after w.stop 16384)
      ∧ t.meas = s.meas ∧ t.ho = s.ho ∧ t.pag = s.pag ∧ t.calls = s.calls ∧ t.text = s.text)
  ∧ (∀ (s : State) (since : Tick), s.Ready → s.svc.state = .linked → s.svc.traffic.since = some since →
    (s.svc.traffic.gapFlag = true → exec .gapCheck s = .next s)
    ∧ (s.svc.traffic.gapFlag = false →
      (∀ w, s.air.plan.find? (·.isTraffic) = some w → w.state = .active) →
      exec .gapCheck s = .next
        { s.reach (after since (16384 - s.svc.traffic.accrued)) with svc :=
          { s.svc with traffic := { s.svc.traffic with gapFlag := true } } })
    ∧ ∀ w, s.svc.traffic.gapFlag = false → s.air.plan = [w] → s.air.peers = [] → w.isTraffic = true → w.owner = .service →
      w.state ≠ .active →
      ∃ t id, exec .gapCheck s = .next t
        ∧ t.svc = { s.svc with traffic := { s.svc.traffic with gapFlag := true } }
        ∧ (w.state = .standing → s.line.Sends t.line w.cls 2 [255, byte w.id, 0, 0])
        ∧ (∀ n, w.state = .offered → w.claim = some n → n < s.line.nextSerial →
          ((∀ e ∈ s.line.txq, e.serial ≠ n) ∨ ∀ e ∈ s.line.held, e.serial ≠ n) →
          (s.line.isBeingSent n = false → ∀ e ∈ t.line.txq ++ t.line.held, e.serial ≠ n)
            ∧ (s.line.isBeingSent n = true → t.air.owed = s.air.owed ++ [⟨n, w.id, w.cls⟩]))
        ∧ t.Offers .service .traffic id (after (s.reach (after since (16384 - s.svc.traffic.accrued))).now 99)
          (after (after (s.reach (after since (16384 - s.svc.traffic.accrued))).now 99) 16384)
        ∧ t.meas = s.meas ∧ t.ho = s.ho ∧ t.pag = s.pag ∧ t.calls = s.calls ∧ t.text = s.text)
  ∧ ∀ (s : State) (tk : Tick), s.Ready → s.svc.traffic.close = some tk →
    (s.svc.state ∈ [.switching, .returning] → exec .idleClose s = .next (s.reach tk))
    ∧ ∀ w, s.svc.state = .linked → s.svc.anyNeed = false → s.air.plan = [w] → s.air.peers = [] → w.isTraffic = true →
      w.owner = .service → w.state = .active → s.meas.rounds = [] → s.ho.report = none →
      ∃ t, exec .idleClose s = .next t ∧ t.svc.state = .camped ∧ t.svc.reported = some .camped
        ∧ t.svc.traffic = { s.svc.traffic with close := none, since := some (s.svc.traffic.since.getD (s.reach tk).now) }
        ∧ (∀ v ∈ t.air.plan, v.kind ≠ .traffic) ∧ s.line.Sends t.line w.cls 2 [255, byte w.id, 0, 0]
        ∧ s.line.Sends t.line 2 58 [byte s.transceiver] ∧ t.pag.running = true ∧ t.ho.reported = []
        ∧ t.meas.params = s.meas.params ∧ t.calls = s.calls ∧ t.text = s.text

/-! ### Handover -/

/-- REPORT_INTERVAL: with the reported set empty nothing changes; else the next report tick moves on by the interval in force, and
in LINKED, with reports left, a HANDOVER-REPORT of the set goes to the transceiver and is counted (R125, R126). HANDOVER_ORDER: in
LINKED, for another cell than the serving one, the switch record is made with its deadline of D ticks, the call and text timers
are held, and the SWITCH window of D ticks is OFFERED for now + 99; any other order changes nothing (R127, R128, R138). An ACTIVE
TRAFFIC window that reaches into the SWITCH window is cut to end at its start, with a WITHDRAW of that end, and one that ends
before stays (R61, R68); with eight TRAFFIC windows in the plan and none of them in its way, the one not ACTIVE with the latest
start is given up for it (R62); what then becomes of the CLAIM of an OFFERED one is the model's reading (assumption log, entry 42:
DEDUCED). A connected MEASURE_REPORT in LINKED, here one without samples, is followed by the connected evaluation: nothing without
a level of the serving cell; else a record above F_s + 16·m keeps or gets its better-since and any other loses it; one above it
for the scaled report delay joins the empty set, and is reported at once; a sole member leaves at a rank not above F_s + 16·m −
16, or without a level, and the set then has no next report (R95, R122 to R125). -/
def Obligations.ReportsAndOrders : Prop :=
  (∀ (s : State) (tk : Tick), s.Ready → s.ho.nextReport = some tk →
    (s.ho.reported = [] → exec .reportInterval s = .next (s.reach tk))
    ∧ (s.ho.reported ≠ [] → (s.svc.state ≠ .linked ∨ (s.meas.params.repCount ≠ 0 ∧ s.meas.params.repCount ≤ s.ho.count)) →
      exec .reportInterval s = .next
        { s.reach tk with ho :=
          { s.ho with nextReport := some (after (s.reach tk).now (s.meas.params.interval * 8192)) } })
    ∧ ∀ (c d : Cell) (f g : Int), s.svc.state = .linked → (s.meas.params.repCount = 0 ∨ s.ho.count < s.meas.params.repCount) →
      s.ho.report = none → s.serving? = some c → c.level = some f → s.ho.reported = [d.key] → s.cell? d.key = some d →
      d.level = some g →
      ∃ t, exec .reportInterval s = .next t
        ∧ t.ho = { s.ho with
            count := min 255 (s.ho.count + 1), report := some s.line.nextSerial
            nextReport := some (after (s.reach tk).now (s.meas.params.interval * 8192)) }
        ∧ s.line.Sends t.line 2 63
          (byte s.transceiver :: (keyBytes c.key ++ sbytes2 f ++ [1] ++ keyBytes d.key
            ++ sbytes2 (g - 16 * d.offset - 16 * (d.penalty : Int))))
        ∧ t.air = (s.reach tk).air ∧ t.meas = s.meas ∧ t.svc = s.svc ∧ t.pag = s.pag ∧ t.calls = s.calls ∧ t.text = s.text)
  ∧ (∀ (s : State) (r : RxRecord), s.Receives 42 r → s.CellsHold → u8 r.payload 1 = 0 → u8 r.payload 3 = 0 →
    s.svc.state = .linked →
    (s.serving?.bind (·.level) = none → exec .measureReport s = .next s.completeRecord)
    ∧ ∀ (v d : Cell) (fs e : Int), s.serving? = some v → v.level = some fs → e = fs + 16 * (s.meas.params.margin : Int) →
      d ∈ s.meas.cells → (∀ c ∈ s.meas.cells, c ≠ d → c.rankAbove e = false) → s.ho.report = none →
      (∀ g, d.rankAbove e = true → d.level = some g → s.ho.reported = [] →
        (s.scaled (s.meas.params.nRep * 16384 / 25) ≤ elapsed s.now (d.betterSince.getD s.now) →
          ∃ t, exec .measureReport s = .next t
            ∧ t.ho = { s.ho with
                reported := [d.key], count := 1, report := some s.line.nextSerial
                nextReport := some (after s.now (s.meas.params.interval * 8192)) }
            ∧ s.line.Sends t.line 2 63
              (byte s.transceiver :: (keyBytes v.key ++ sbytes2 fs ++ [1] ++ keyBytes d.key
                ++ sbytes2 (g - 16 * d.offset - 16 * (d.penalty : Int))))
            ∧ t.meas = { s.meas with
                cells := s.meas.cells.map fun c =>
                  if c.role = .serving then c
                  else { c with betterSince := if c = d then some (d.betterSince.getD s.now) else none } }
            ∧ t.air = s.air ∧ t.svc = s.svc ∧ t.pag = s.pag ∧ t.calls = s.calls ∧ t.text = s.text)
        ∧ (elapsed s.now (d.betterSince.getD s.now) < s.scaled (s.meas.params.nRep * 16384 / 25) →
          exec .measureReport s = .next
            { s.completeRecord with
              meas := { s.meas with
                cells := s.meas.cells.map fun c =>
                  if c.role = .serving then c
                  else { c with betterSince := if c = d then some (d.betterSince.getD s.now) else none } }
              ho := { s.ho with nextReport := none } }))
      ∧ (d.rankAbove e = false → d.role ≠ .serving → s.ho.reported = [d.key] →
        exec .measureReport s = .next
          { s.completeRecord with
            meas := { s.meas with
              cells := s.meas.cells.map fun c => if c.role = .serving then c else { c with betterSince := none } }
            ho :=
              if d.level = none ∨ d.neighbour = true ∧ d.rankAbove (e - 16) = false then
                { s.ho with reported := [], nextReport := none }
              else s.ho }))
  ∧ ∀ (s : State) (r : RxRecord), s.Receives 50 r →
    ((s.svc.state ≠ .linked ∨ ∀ c, s.serving? = some c → keyAt r.payload 1 = c.key) →
      exec .handoverOrder s = .next s.completeRecord)
    ∧ ∀ (c : Cell) (d : Nat), s.air.peers = [] → s.svc.state = .linked → s.serving? = some c → keyAt r.payload 1 ≠ c.key →
      (s.cell? (keyAt r.payload 1)).isSome = true → d = max 5 (min 200 (u8 r.payload 4)) * 8192 / 25 →
      (s.air.plan = []
        ∨ (s.NoWithdraw ∧ ∃ v, s.air.plan = [v] ∧ v.state = .active ∧ v.kind = .traffic ∧ v.owner = .service
          ∧ v.cls = WinKind.traffic.cls ∧ elapsed s.now v.start < 2 ^ 30)
        ∨ (s.air.plan.length = 8 ∧ (s.air.plan.map (·.id)).Nodup
          ∧ (∀ v ∈ s.air.plan, v.kind = .traffic ∧ v.owner = .service ∧ v.cls = WinKind.traffic.cls
            ∧ overlap (after s.now 99) (after (after s.now 99) d) v.start v.stop = false)
          ∧ ∃ v ∈ s.air.plan, v.state ≠ .active
            ∧ ∀ u ∈ s.air.plan, u.state ≠ .active → u ≠ v → later v.start u.start = true)) →
      ∃ t id, exec .handoverOrder s = .next t
        ∧ (∀ v, s.air.plan = [v] →
          (later v.stop (after s.now 99) = true → s.Cuts t v .own (after s.now 99))
          ∧ (later v.stop (after s.now 99) = false → v ∈ t.air.plan))
        ∧ (∀ v ∈ s.air.plan, v.state ≠ .active →
          (∀ u ∈ s.air.plan, u.state ≠ .active → u ≠ v → later v.start u.start = true) →
          s.Retracts t v ∧ t.air.plan.length = 8
            ∧ ∀ u ∈ s.air.plan, u ≠ v → ∃ x ∈ t.air.plan, x.id = u.id ∧ x.kind = u.kind ∧ x.start = u.start ∧ x.stop = u.stop)
        ∧ t.svc = { s.svc with
            state := .switching, traffic := { s.svc.traffic with accrued := s.absence, since := none } }
        ∧ t.ho = { s.ho with
            switch := some
              { phase := .switch, target := keyAt r.payload 1, old := c.key, ticks := d, latest := after s.now (d / 2),
                window := some id, req := .unbuilt, cause := none, ended := false }
            nextReport := none, report := none }
        ∧ t.Offers .handover .switch id (after s.now 99) (after (after s.now 99) d)
        ∧ t.calls = { s.calls with
            timersHeld := true, table := s.calls.table.map fun e => { e with timer := e.timer.hold s.now } }
        ∧ t.text = { s.text with
            timersHeld := true, ackWait := s.text.ackWait.hold s.now
            outbound := s.text.outbound.map fun o => { o with wait := o.wait.hold s.now } }
        ∧ t.meas = s.meas ∧ t.pag = s.pag ∧ t.cmd = s.cmd

/-- SWITCH_RESULT: one that is not awaited changes nothing. A successful switch makes the target SERVING in LINKED, empties the
handover unit, offers its held uplink in the order held, gives each held timer of a call and of a text the resumption tick plus its
remaining ticks, and requests a TRAFFIC window; a failed one penalises the target and begins the return in RETURNING. A
successful return resumes LINKED on the old cell in the same way; a failed one discards the held uplink, loses every call and
text, and enters SCANNING with a scan from now. Each releases the phase's SWITCH window, which has its WITHDRAW (R67, R130 to
R138). That the mobility ring's entry has the arrival tick is the model's
reading (R112; assumption log, entry 28), and so is that LINKED entered again sets no close tick where none is set, with no need
raised too (R119; assumption log, entry 26). -/
def Obligations.SwitchesAreDecided : Prop :=
  (∀ (s : State) (r : RxRecord), s.Receives 51 r →
    (∀ c, s.ho.switch = some c → s.svc.state = .switching ∨ s.svc.state = .returning → c.req = .sent →
      keyAt r.payload 1 = (if c.phase = .switch then c.target else c.old) → False) →
    exec .switchResult s = .next s.completeRecord)
  ∧ ∀ (s : State) (r : RxRecord) (c : Switch), s.Receives 51 r → s.PlanOnly .handover c.window →
    s.pag.running = false → s.ho.switch = some c → c.req = .sent →
    (c.phase = .switch → s.svc.state = .switching → keyAt r.payload 1 = c.target → (s.cell? c.target).isSome = true →
      (u8 r.payload 4 = 0 → s.svc.traffic.close = none → s.svc.traffic.since = none →
        ∃ t id, exec .switchResult s = .next t ∧ t.svc.state = .linked ∧ t.svc.reported = some .linked
          ∧ t.svc.campTick = some r.arrival ∧ t.svc.traffic = { s.svc.traffic with since := some s.now }
          ∧ t.svc.ring.getLast?.map (fun e => (e.tick, e.source, e.target)) = some (r.arrival, some c.old, c.target)
          ∧ t.ho = Handover.reset ∧ t.meas.params = Params.default
          ∧ t.meas.cells = s.meas.cells.map (fun d =>
            { (if d.key == c.target then d.promoted else d.demoted) with betterSince := none })
          ∧ t.air.anchor = some
            { frame := u16 r.payload 6, tick := r.arrival + BitVec.ofInt 32 (i16 r.payload 8)
              phase := min 24 (u8 r.payload 10) }
          ∧ t.Offers .service .traffic id (after s.now 99) (after (after s.now 99) 16384)
          ∧ s.UplinkReleased t (s.line.nextSerial + s.air.plan.length) ∧ s.TimersResumed t ∧ s.Withdraws t ∧ t.pag = s.pag
          ∧ (s.enabled .cellChanged = true → t.Notes .cellChanged))
      ∧ (u8 r.payload 4 ≠ 0 →
        ∃ t id, exec .switchResult s = .next t ∧ t.svc = { s.svc with state := .returning }
          ∧ t.ho = { s.ho with
              switch := some
                { c with
                  phase := .return_, cause := some (.rejected (u8 r.payload 5)), latest := after s.now 32768
                  window := some id, req := .unbuilt, ended := false } }
          ∧ t.Offers .handover .switch id (after s.now 99) (after (after s.now 99) 16384)
          ∧ t.meas = { s.meas with
              cells := s.meas.cells.map fun d =>
                if d.key == c.target ∧ d.role ≠ .serving then
                  { d with penalty := 16, penaltyUntil := some (after s.now 983040) }
                else d }
          ∧ s.Withdraws t ∧ t.pag = s.pag ∧ t.calls = s.calls ∧ t.text = s.text))
    ∧ (c.phase = .return_ → s.svc.state = .returning → keyAt r.payload 1 = c.old →
      (u8 r.payload 4 = 0 → s.svc.traffic.close = none → s.svc.traffic.since = none →
        ∃ t id, exec .switchResult s = .next t ∧ t.svc.state = .linked
          ∧ t.svc.traffic = { s.svc.traffic with since := some s.now } ∧ t.ho = Handover.reset
          ∧ t.meas = { s.meas with cells := s.meas.cells.map fun d => { d with betterSince := none } }
          ∧ t.air.anchor = some
            { frame := u16 r.payload 6, tick := r.arrival + BitVec.ofInt 32 (i16 r.payload 8)
              phase := min 24 (u8 r.payload 10) }
          ∧ t.Offers .service .traffic id (after s.now 99) (after (after s.now 99) 16384)
          ∧ s.UplinkReleased t (s.line.nextSerial + s.air.plan.length) ∧ s.TimersResumed t ∧ s.Withdraws t
          ∧ (s.enabled .handoverFailed = true → t.Notes .handoverFailed))
      ∧ (u8 r.payload 4 ≠ 0 → s.svc.needStore = s.text.exchange.needsStore → s.ho.report = none →
        ∃ t id, exec .switchResult s = .next t ∧ t.svc.state = .scanning ∧ t.svc.reported = some .scanning
          ∧ t.svc.needPage = none ∧ t.svc.needCall = false ∧ t.svc.needText = false ∧ t.svc.needStore = false
          ∧ t.ho = Handover.reset ∧ t.calls.table = [] ∧ t.calls.timersHeld = false ∧ t.text.timersHeld = false
          ∧ (∀ e ∈ t.line.txq ++ t.line.held, e ∈ s.line.txq ++ s.line.held ∨ e.owner ≠ .call ∧ e.owner ≠ .text)
          ∧ (∀ o ∈ t.text.outbound, o.state = .composing) ∧ t.air.anchor = none
          ∧ t.svc.scan = some { Scan.fresh with window := some id } ∧ s.Withdraws t
          ∧ t.Offers .service .scan id (after s.now 99) (after (after s.now 99) 16384)))

/-! ### Paging and power -/

/-- FRAME_END of the one cycle held: with the schedule running and an anchor, the next paging frame not earlier than the frame end
and now + 99 gets its WATCH window over the frame and its MEASURE window directly after it, of the length its scope asks for,
FULL or SERVING-ONLY (R141, R143, R144); with the schedule stopped the cycle alone is ended. -/
def Obligations.NextCycleIsPlanned : Prop :=
  (∀ (s : State) (c : Cycle), s.Ready → s.pag.cycles = [c] → c.ended = false → s.pag.running = false →
    exec .frameEnd s = .next
      { s.reach c.stop with pag :=
        { s.pag with
          cycles := if c.status = .answered ∨ c.status = .missed then [] else [{ c with ended := true }] } })
  ∧ ∀ (s : State) (c : Cycle) (u : Setup) (a : Anchor) (now t0 start stop : Tick) (frame full n rounds : Nat), s.Ready →
    s.PlanClear → s.meas.rounds = [] → s.pag.running = true → s.pag.cycles = [c] → c.ended = false → s.air.anchor = some a →
    s.cmd.setup = some u → now = (s.reach c.stop).now → t0 = laterOf (after now 99) c.stop →
    a.nextFrame s.meas.params.cycle
      (u.index % s.meas.params.groups * (s.meas.params.cycle / s.meas.params.groups) + s.meas.params.shift) t0
      = (frame, start, stop) →
    earlier start (after now 99) = false → later start (after now (2 ^ 30)) = false →
    earlier stop (after now 99) = false → later stop (after now (2 ^ 30)) = false →
    rounds = min 255 (s.pag.roundsSinceFull + 1) →
    full = (match s.serving?.bind (·.level) with
      | none => 1
      | some f =>
        if f < 16 * s.meas.params.search ∨ (match s.svc.mobility with
            | .normal => 4
            | .medium => 2
            | .high => 1) ≤ rounds then 1 else 0) →
    n = (if full = 1 then min 16 (max 1 (s.meas.cells.filter (·.role != .barred)).length) else 1) →
    ∃ t w m stw stm, exec .frameEnd s = .next t ∧ t.Plans .paging .watch w start stop stw
      ∧ t.Plans .paging .measure m stop (after stop (33 + 16 * n)) stm
      ∧ t.pag.cycles = (if c.status = .answered ∨ c.status = .missed then [] else [{ c with ended := true }])
        ++ [{ frame := frame, start := start, stop := stop, watch := some w, status := .waiting, deadline := none,
              measure := some m, full := full == 1, ended := false }]
      ∧ t.pag.roundsSinceFull = (if full = 1 then 0 else rounds) ∧ t.meas.rounds.map (·.id) = [m]
      ∧ t.meas.cells = s.meas.cells ∧ t.svc = s.svc ∧ t.ho = s.ho ∧ t.calls = s.calls ∧ t.text = s.text

/-- PAGE_RESULT: one for no watch ACTIVE or AWAITING changes nothing. Else the anchor is set, the watch is ANSWERED and the count
of missed watches cleared; and an entry with the own identity raises the PAGE need, CALL before TEXT, and opens the connection
from CAMPED (R48, R115, R147, R148): its ACCESS window is OFFERED for now + 99, or behind a peer claim that outranks it and stands
in the way (R60), and the windows of the schedule leave the plan, those in its way giving way to it and those left then released,
each retracted on the line as its state asks (R61, R67, R142), where what becomes of the CLAIM of an OFFERED one that gives way is
the model's reading (assumption log, entry 42: DEDUCED). With the info-change flag and the state still CAMPED, an INFO window is
requested where no INFO record exists: OFFERED for now + 99, or behind the watch that is still ACTIVE, and where that ends later
than now + 8192 the request is refused and no record is made (R60, R147, R149). WATCH_RESULT_DEADLINE: an AWAITING watch is missed
with reason SILENT, and PAGES-MISSED tells of every fourth (R146, R150). -/
def Obligations.WatchesAreAnsweredOrMissed : Prop :=
  (∀ (s : State) (r : RxRecord), s.Receives 44 r →
    ((s.pag.running = false ∨ ∀ c ∈ s.pag.cycles, c.watch = some (u8 r.payload 1) → c.status ∉ [.active, .awaiting]) →
      exec .pageResult s = .next s.completeRecord)
    ∧ ∀ (c : Cycle) (u : Setup), s.pag.running = true → s.pag.cycles = [c] → c.watch = some (u8 r.payload 1) →
      c.status = .active ∨ c.status = .awaiting → s.pag.planOwed = false → s.cmd.setup = some u →
      ((∀ e ∈ pagedEntries r.payload, e.1 ≠ u.identity.toNat) →
        (u8 r.payload 7).testBit 0 = false ∨ s.svc.state ≠ .camped ∨ s.pag.info ≠ none
          ∨ (s.air.peers = [] ∧ ∃ w, s.air.plan = [w] ∧ w.cls = WinKind.watch.cls
            ∧ overlap (after s.now 99) (after (after s.now 99) 655) w.start w.stop = true
            ∧ later w.stop (after s.now 8192) = true) →
        exec .pageResult s = .next
          { s.completeRecord with
            air := { s.air with
              anchor := some
                { frame := u16 r.payload 2, tick := r.arrival + BitVec.ofInt 32 (i16 r.payload 4)
                  phase := min 24 (u8 r.payload 6) } }
            pag := { s.pag with
              cycles := if c.ended then [] else [{ c with status := .answered, deadline := none }]
              missed := 0, missReason := none } })
      ∧ (∀ x : Tick, (∀ e ∈ pagedEntries r.payload, e.1 ≠ u.identity.toNat) → (u8 r.payload 7).testBit 0 = true →
        s.svc.state = .camped → s.pag.info = none → s.air.peers = [] →
        (s.air.plan = [] ∧ x = after s.now 99
          ∨ ∃ w, s.air.plan = [w] ∧ w.cls = WinKind.watch.cls
            ∧ (if overlap (after s.now 99) (after (after s.now 99) 655) w.start w.stop = true then
                later w.stop (after s.now 8192) = false ∧ x = w.stop
              else x = after s.now 99)) →
        ∃ t id, exec .pageResult s = .next t
          ∧ t.pag = { s.pag with
              cycles := if c.ended then [] else [{ c with status := .answered, deadline := none }]
              missed := 0, missReason := none, info := some { window := some id, req := .unbuilt, deadline := none } }
          ∧ t.Offers .paging .info id x (after x 655) ∧ t.line.rxq = s.line.rxq.tail
          ∧ t.air.anchor = some
            { frame := u16 r.payload 2, tick := r.arrival + BitVec.ofInt 32 (i16 r.payload 4), phase := min 24 (u8 r.payload 6) }
          ∧ t.meas = s.meas ∧ t.svc = s.svc ∧ t.ho = s.ho ∧ t.calls = s.calls ∧ t.text = s.text)
      ∧ ∀ (k : Nat) (x : Tick), s.air.plan.length ≤ 2 → (s.air.plan.map (·.id)).Nodup → s.NoWithdraw → s.line.Distinct →
        (∀ w ∈ s.air.plan, w.owner = .paging ∧ (w.kind = .watch ∧ c.watch = some w.id ∨ w.kind = .measure) ∧ w.cls = w.kind.cls
          ∧ ∀ n, w.claim = some n → n < s.line.nextSerial) →
        (∀ q ∈ s.meas.rounds, ∀ n, q.req = .offered n → n < s.line.nextSerial) →
        (s.air.peers = [] ∧ x = after s.now 99
          ∨ ∃ p, s.air.peers = [p] ∧ outranks p.cls p.station WinKind.access.cls s.line.station = true
            ∧ overlap (after s.now 99) (after (after s.now 99) 1311) p.start p.stop = true
            ∧ later p.stop (after s.now 32768) = false ∧ x = p.stop) →
        s.pag.info = none → s.svc.state = .camped → s.svc.needPage = none → k = 0 ∨ k = 1 →
        (u.identity.toNat, k) ∈ pagedEntries r.payload → (k = 1 → (u.identity.toNat, 0) ∉ pagedEntries r.payload) →
        ∃ t id, exec .pageResult s = .next t ∧ t.svc.state = .connecting
          ∧ t.svc.needPage = some (if k = 0 then .call else .text) ∧ t.svc.conn = { Conn.idle with window := some id }
          ∧ t.Offers .service .access id x (after x 1311) ∧ (∀ w ∈ t.air.plan, w.kind = .access) ∧ (∀ w ∈ s.air.plan, s.Retracts t w)
          ∧ t.pag.running = false ∧ t.pag.cycles = [] ∧ t.pag.missed = 0 ∧ t.calls = s.calls ∧ t.text = s.text)
  ∧ ∀ (id : Nat) (s : State) (c : Cycle) (tk : Tick), s.Ready → s.pag.cycles = [c] → c.watch = some id →
    c.status = .awaiting → c.deadline = some tk →
    ∃ t, exec (.watchResultDeadline id) s = .next t
      ∧ t.pag = { s.pag with
          cycles := if c.ended then [] else [{ c with status := .missed, deadline := none }]
          missed := min 255 (s.pag.missed + 1), missReason := some .silent }
      ∧ (s.pag.missed < 255 → (s.pag.missed + 1) % 4 = 0 → s.enabled .pagesMissed = true → t.Notes .pagesMissed)
      ∧ t.air = (s.reach tk).air ∧ t.meas = s.meas ∧ t.svc = s.svc ∧ t.ho = s.ho ∧ t.calls = s.calls ∧ t.text = s.text

/-- DOZE_ENTRY and SHELVED_ENTRY change the power state exactly where the conditions of R153 and R160 hold, and nothing
otherwise, but that in DOZE the wake tick follows its inputs (R154). WAKE_TICK in DOZE and LINE_EDGE_WAKE in DOZE and SHELVED
begin a settle wait, and an edge sets the edge hold as well (R152 to R154, R156, R160). Joined, and neither sending nor receiving,
the part takes the line for idle once the bit times of its own mark, delimiter and gap can have passed; and the wake tick is made
absent by an edge too: the model's choice (assumption log, entries 10 and 38). -/
def Obligations.PowerStatesAreEnteredAndLeft : Prop :=
  (∀ s : State, s.Settled →
    exec .dozeEntry s = .next
      (if s.pag.power = .awake ∧ s.line.joined = true ∧ s.line.phase.free = true
          ∧ s.line.wait.passed s.line.wait.bits s.line.rate s.now 15624 = true ∧ s.line.state ≠ .detached
          ∧ (s.svc.state = .scanning ∨ s.svc.state = .camped) ∧ s.calls.table = []
          ∧ (∀ o ∈ s.text.outbound, o.state = .composing) ∧ s.line.rxq = [] ∧ s.line.txq = [] ∧ s.line.held = []
          ∧ s.cmd.notices = [] ∧ s.text.pendingRead = none ∧ s.pag.wakeHold = false ∧ s.cmd.linger = none
          ∧ s.pag.edgeHold = none ∧ (∀ w ∈ s.air.plan, w.state ≠ .active) ∧ (∀ c ∈ s.pag.cycles, c.status ≠ .awaiting)
          ∧ (∀ q ∈ s.meas.rounds, q.silence = none) ∧ s.svc.scan.bind (·.deadline) = none
          ∧ s.pag.info.bind (·.deadline) = none
          ∧ ∀ tk ∈ s.dueStarts ++ s.dueTimers, later tk (after s.now (s.wakeLead + s.settleTicks)) = true
        then { s with pag := { s.pag with power := .doze, wake := s.wakeTick } } else s.refreshWake)
    ∧ exec .shelvedEntry s = .next
      (if s.pag.power = .awake ∧ s.svc.state = .shelved ∧ s.calls.table = []
          ∧ (∀ o ∈ s.text.outbound, o.state = .composing) ∧ s.line.rxq = [] ∧ s.line.txq = [] ∧ s.line.held = []
          ∧ s.cmd.notices = [] ∧ s.pag.edgeHold = none ∧ s.line.joined = true ∧ s.line.phase.free = true
          ∧ s.line.wait.passed s.line.wait.bits s.line.rate s.now 15624 = true
        then { s with pag := { s.pag with power := .shelved, wake := none } } else s.refreshWake))
  ∧ (∀ (s : State) (tk : Tick), s.Settled → s.pag.power = .doze → s.pag.wake = some tk →
    exec .wakeTick s = .next
      { s.reach tk with pag :=
        { s.pag with power := .settling, settleEnd := some (after (s.reach tk).now s.settleTicks), wake := none } })
  ∧ ∀ (s : State) (tk : Tick), s.Settled → s.pag.power = .doze ∨ s.pag.power = .shelved →
    exec (.lineEdgeWake tk) s = .next
      { s.reach tk with pag :=
        { s.pag with
          power := .settling, settleEnd := some (after (s.reach tk).now s.settleTicks), wake := none
          edgeHold := some (after (after (s.reach tk).now s.settleTicks) 3277) } }

/-! ### Start of service, shelving and restart -/

/-- SETUP: once a record is held, STATE; with a station number or the index out of range, VALUE; else the record is stored, its
settle exponent brought into 4 to 9, the part is SCANNING without a notice where no state was reported to the host before, as of a
part UNSET, and the SCAN window is PLANNED for now + 65536 (R33, R34, R100, R102). -/
def Obligations.SetupBeginsService : Prop :=
  ∀ (s : State) (r : RxRecord), s.Commanded 8 r →
    (s.cmd.setup ≠ none → ∃ t, exec .setup s = .next t ∧ s.AnswersHost t r .state [] ∧ s.UnitsKept t ∧ s.LineKept t
      ∧ t.cmd.setup = s.cmd.setup)
    ∧ (s.cmd.setup = none →
      (15 < u8 r.payload 8 ∨ 15 < u8 r.payload 9 ∨ u8 r.payload 8 = s.line.station ∨ u8 r.payload 9 = s.line.station
          ∨ u8 r.payload 8 = u8 r.payload 9 ∨ 1023 < u16 r.payload 6) →
      ∃ t, exec .setup s = .next t ∧ s.AnswersHost t r .value [] ∧ s.UnitsKept t ∧ s.LineKept t ∧ t.cmd.setup = none)
    ∧ (s.cmd.setup = none → u8 r.payload 8 ≤ 15 → u8 r.payload 9 ≤ 15 → u8 r.payload 8 ≠ s.line.station →
      u8 r.payload 9 ≠ s.line.station → u8 r.payload 8 ≠ u8 r.payload 9 → u16 r.payload 6 ≤ 1023 →
      s.svc.state = .unset → s.svc.backoff = 65536 → s.PlanClear →
      ∃ t id, exec .setup s = .next t ∧ s.AnswersHost t r .done [byte (max 4 (min 9 (u8 r.payload 10)))] ∧ s.LineKept t
        ∧ t.cmd.setup = some
          { identity := BitVec.ofNat 32 (u32 r.payload 2), index := u16 r.payload 6, host := u8 r.payload 8
            transceiver := u8 r.payload 9, settle := max 4 (min 9 (u8 r.payload 10)), mask := BitVec.ofNat 16 (u16 r.payload 11) }
        ∧ t.svc = { s.svc with
            state := .scanning, reported := some .scanning, campTick := none, unsuitable := 0, camp := none, conn := Conn.idle
            scan := some { Scan.fresh with window := some id } }
        ∧ t.Plans .service .scan id (after s.now 65536) (after (after s.now 65536) 16384) .planned
        ∧ (s.svc.reported = none → t.cmd.notices = s.cmd.notices ∧ t.cmd.noticeOut = s.cmd.noticeOut)
        ∧ t.air.anchor = none ∧ t.meas = { s.meas with cells := s.meas.cells.map Cell.demoted } ∧ t.ho = s.ho ∧ t.pag = s.pag
        ∧ t.calls = s.calls ∧ t.text = s.text)

/-- SHELVE is BUSY with a call, a text being sent or a switch; else the part is SHELVED: its plan, rounds, cells, cycles and
assemblies are gone and a COMPOSING text with them, while stored texts, the mobility ring, the mobility state, calm-since, the scan
backoff and the CALL and TEXT needs stay, and LINK-CLOSE ends a connection; of the requests
SCAN-ORDER, CAMP-REQ, LINK-REQ, MEASURE-ORDER and PARAMS-REQ and of the CALL-SIGNALs none is queued or held any more, and one
being sent is marked for removal; every window of the cleared plan is retracted as its state asks: STANDING and ACTIVE ones are
withdrawn, the CLAIM of an OFFERED one is removed (R26, R73, R120, R158, R159, R182; that the CALL-SIGNALs go is R182's, read
before R180: assumption log, entry 18). UNSHELVE of a part not shelved is STATE; of a shelved one, it is SCANNING with its SCAN
window PLANNED at now + 65536 (R161). WAKE_HOLD sets the flag to 0 or 1 and answers the former one; any other value is VALUE
(R157). -/
def Obligations.ShelvingAndWakeHold : Prop :=
  (∀ (s : State) (r : RxRecord), s.Commanded 11 r →
    ((s.calls.table ≠ [] ∨ (∃ o ∈ s.text.outbound, o.state ≠ .composing) ∨ s.svc.state ∈ [.switching, .returning]) →
      ∃ t, exec .shelve s = .next t ∧ s.AnswersHost t r .busy [] ∧ s.UnitsKept t ∧ s.LineKept t)
    ∧ (s.calls.table = [] → (∀ o ∈ s.text.outbound, o.state = .composing) → s.svc.state ∉ [.switching, .returning] →
      ∃ t, exec .shelve s = .next t ∧ s.AnswersHost t r .done [] ∧ s.LineKept t
        ∧ t.svc.state = .shelved ∧ t.svc.reported = some .shelved ∧ t.svc.scan = none ∧ t.svc.camp = none
        ∧ t.svc.conn = Conn.idle ∧ t.svc.traffic = Traffic.idle ∧ t.svc.campTick = none ∧ t.svc.unsuitable = 0
        ∧ t.svc.ring = s.svc.ring ∧ t.svc.mobility = s.svc.mobility ∧ t.svc.calmSince = s.svc.calmSince
        ∧ t.svc.backoff = s.svc.backoff ∧ t.svc.needCall = s.svc.needCall ∧ t.svc.needText = s.svc.needText
        ∧ t.svc.needPage = none ∧ t.air.plan = [] ∧ t.air.anchor = none ∧ t.air.peers = s.air.peers ∧ t.meas = Measure.reset
        ∧ t.ho.reported = [] ∧ t.pag.running = false ∧ t.pag.cycles = [] ∧ t.pag.info = none ∧ t.pag.missed = 0
        ∧ t.calls = s.calls ∧ t.text.assemblies = [] ∧ t.text.outbound = [] ∧ t.text.store = s.text.store
        ∧ t.text.unread = s.text.unread ∧ t.cmd.setup = s.cmd.setup
        ∧ (s.enabled .serviceChanged = true → ∀ old, s.svc.reported = some old → old ≠ .shelved →
          t.Tells .serviceChanged [byte old.code, 8])
        ∧ (∀ e ∈ t.line.txq ++ t.line.held, e.topic ∈ [56, 57, 60, 66, 67, 68] →
          s.line.isBeingSent e.serial = true ∧ e.removal = true)
        ∧ ((∀ n, s.ho.report = some n → n < s.line.nextSerial) → s.ClaimsPast → ∀ w ∈ s.air.plan, s.Retracts t w)
        ∧ (s.svc.state = .connecting ∨ s.svc.state = .linked → (∀ n, s.ho.report = some n → n < s.line.nextSerial) →
          (∀ w ∈ s.air.plan, ∀ n, w.claim = some n → n < s.line.nextSerial) →
          s.line.Sends t.line 2 58 [byte s.transceiver])))
  ∧ (∀ (s : State) (r : RxRecord), s.Commanded 12 r →
    (s.svc.state ≠ .shelved → ∃ t, exec .unshelve s = .next t ∧ s.AnswersHost t r .state [] ∧ s.UnitsKept t ∧ s.LineKept t)
    ∧ (s.svc.state = .shelved → s.PlanClear →
      ∃ t id, exec .unshelve s = .next t ∧ s.AnswersHost t r .done [] ∧ s.LineKept t
        ∧ t.svc = { s.svc with
            state := .scanning, reported := some .scanning, backoff := 65536, campTick := none, unsuitable := 0, camp := none
            conn := Conn.idle, scan := some { Scan.fresh with window := some id } }
        ∧ t.Plans .service .scan id (after s.now 65536) (after (after s.now 65536) 16384) .planned
        ∧ t.ho = s.ho ∧ t.pag = s.pag ∧ t.calls = s.calls ∧ t.text = s.text
        ∧ (s.enabled .serviceChanged = true → s.svc.reported = some .shelved → t.Tells .serviceChanged [8, 1])))
  ∧ ∀ (s : State) (r : RxRecord), s.Commanded 13 r →
    (1 < u8 r.payload 2 → ∃ t, exec .wakeHold s = .next t ∧ s.AnswersHost t r .value [] ∧ s.UnitsKept t ∧ s.LineKept t)
    ∧ (u8 r.payload 2 ≤ 1 → ∃ t, exec .wakeHold s = .next t ∧ s.AnswersHost t r .done [if s.pag.wakeHold then 1 else 0]
      ∧ s.LineKept t ∧ t.pag = { s.pag with wakeHold := u8 r.payload 2 == 1 } ∧ t.air = s.air ∧ t.meas = s.meas ∧ t.svc = s.svc
      ∧ t.ho = s.ho ∧ t.calls = s.calls ∧ t.text = s.text)

/-- RESTART: the radio work is cleared to a fresh scan with its SCAN window PLANNED at now + 65536; the SETUP record, the line and
its tallies, the peer claims, the window id counter and the other counters, the stored texts with their cursors, the wake-hold
flag and the notice enables are kept; LINK-CLOSE ends a connection, a pending read is answered NO-TEXT, and the notice list is
empty but for SERVICE-CHANGED. The parcels of the radio units and the NOTICE, queued or held, are gone, one being sent being
marked for removal, while those of the command and notice unit and the WITHDRAWs stay; every window of the cleared plan is
retracted as its state asks: STANDING and ACTIVE ones are withdrawn, the CLAIM of an OFFERED one is removed (R26, R39, R40, R73,
R120, R205). That the NO-TEXT ANSWER of the cancelled read goes to the station that sent the READ-TEXT is the model's choice
(assumption log, entry 33: DEDUCED). -/
def Obligations.RestartBeginsAfresh : Prop :=
  ∀ (s : State) (r : RxRecord), s.Commanded 10 r →
    ∃ t q, exec .restart s = .next t ∧ s.AnswersHost t r .done [] ∧ s.LineKept t ∧ t.cmd.setup = s.cmd.setup
      ∧ t.meas = Measure.reset ∧ t.ho = Handover.reset ∧ t.calls = { Calls.reset with counter := s.calls.counter }
      ∧ t.pag = { Paging.reset with
          power := .awake, roundsSinceFull := s.pag.roundsSinceFull, wakeHold := s.pag.wakeHold, edgeHold := s.pag.edgeHold }
      ∧ t.svc = { Service.reset with
          state := .scanning, reported := some .scanning, needStore := t.svc.needStore, scan := some q }
      ∧ q.order = .unbuilt ∧ q.candidates = [] ∧ q.confirm = none ∧ q.reUsed = false ∧ q.deadline = none
      ∧ (t.air.plan = [] ∧ q.window = none ∧ q.retry = some (after s.now 32768) ∧ t.air.idCounter = s.air.idCounter
        ∨ ∃ w, t.air.plan = [w] ∧ w.kind = .scan ∧ w.owner = .service ∧ q.window = some w.id ∧ q.retry = none
          ∧ t.air.idCounter = w.id ∧ (s.air.peers = [] → w.start = after s.now 65536 ∧ w.stop = after (after s.now 65536) 16384
            ∧ w.state = .planned))
      ∧ (s.air.peers = [] → s.air.plan = [] → s.air.owed = [] → (∀ e ∈ s.line.txq ++ s.line.held, e.topic ≠ 2) →
        t.air.idCounter = s.air.idCounter % 255 + 1)
      ∧ t.air.anchor = none ∧ t.air.peers = s.air.peers ∧ t.air.now = s.air.now
      ∧ t.text.assemblies = [] ∧ t.text.outbound = [] ∧ t.text.pendingRead = none ∧ t.text.store = s.text.store
      ∧ t.text.unread = s.text.unread ∧ t.text.readCursor = s.text.readCursor ∧ t.text.counter = s.text.counter
      ∧ t.text.refCounter = s.text.refCounter ∧ t.text.capacityOwed = s.text.capacityOwed ∧ t.text.exchange ≠ .awaiting
      ∧ (∀ e ∈ t.line.held, e.serial < s.line.nextSerial →
        e.owner ∈ [.measurement, .service, .handover, .paging, .call, .text] ∨ e.topic = 33 → False)
      ∧ (∀ e ∈ t.line.txq, e.serial < s.line.nextSerial →
        e.owner ∈ [.measurement, .service, .handover, .paging, .call, .text] ∨ e.topic = 33 →
        s.line.isBeingSent e.serial = true ∧ e.removal = true)
      ∧ (∀ e ∈ s.line.txq ++ s.line.held, e.owner ∈ [.airtime, .command] → e.topic ≠ 33 →
        (∀ w ∈ s.air.plan, w.claim ≠ some e.serial) → e ∈ t.line.txq ++ t.line.held)
      ∧ (s.ClaimsPast → ∀ w ∈ s.air.plan, s.Retracts t w)
      ∧ (s.svc.state ∈ [.connecting, .linked, .switching, .returning] → s.line.Sends t.line 2 58 [byte s.transceiver])
      ∧ (∀ x, s.text.pendingRead = some x → s.line.Sends t.line 4 32 [byte x.source, byte x.topic, byte x.reference, 5])
      ∧ (s.svc.reported = some .scanning ∨ s.enabled .serviceChanged = false → t.cmd.notices = [])
      ∧ ∀ old, s.svc.reported = some old → old ≠ .scanning → s.enabled .serviceChanged = true →
        t.cmd.notices.map (fun n => (n.kind, n.count, n.detail)) = [(.serviceChanged, 1, [byte old.code, 1])]

/-- STATUS answers with its snapshot, and QUERY_CALLS, QUERY_CELLS and QUERY_PLAN with their rows in order, each with its index,
the count and the last-row flag; while rows of an earlier query are held a query is BUSY. None of them changes any unit (R37,
R38, R74, R97, R184). -/
def Obligations.QueriesAnswerWithoutChange : Prop :=
  (∀ (s : State) (r : RxRecord), s.Commanded 9 r →
    ∃ t, exec .status s = .next t ∧ s.AnswersHost t r .done [] ∧ s.UnitsKept t ∧ s.LineKept t
      ∧ s.line.Sends t.line 6 34 (s.statusData r))
  ∧ ∀ (s : State) (r : RxRecord) (topic row : Nat) (c : Instr) (bodies : List (List Byte)), s.Commanded topic r →
    ((topic = 28 ∧ c = .queryCalls ∧ row = 35 ∧ bodies = s.calls.table.map s.callRow)
      ∨ (topic = 29 ∧ c = .queryCells ∧ row = 36
        ∧ bodies = (sortBy (fun a b => keyBelow a.key b.key) s.meas.cells).map s.cellRow)
      ∨ (topic = 30 ∧ c = .queryPlan ∧ row = 37 ∧ bodies = s.air.plan.map s.ownRow ++ s.air.peers.map s.peerRow)) →
    ((∃ e ∈ s.line.held, e.topic ∈ [35, 36, 37]) →
      ∃ t, exec c s = .next t ∧ s.AnswersHost t r .busy [] ∧ s.UnitsKept t ∧ s.LineKept t)
    ∧ ((∀ e ∈ s.line.held, e.topic ∉ [35, 36, 37]) →
      ∃ t, exec c s = .next t ∧ s.AnswersHost t r .done [byte bodies.length] ∧ s.UnitsKept t ∧ s.LineKept t
        ∧ ∀ (i : Nat) (b : List Byte), bodies[i]? = some b →
          s.line.Sends t.line 6 row
            ([byte s.host, byte r.ref, byte (i + 1), byte bodies.length, if i + 1 = bodies.length then 1 else 0] ++ b))

/-! ### Calls -/

/-- DIAL: a malformed number is VALUE; a step in flight BUSY; a record in the foreground STATE; four records FULL. Else a record is
made OUT with the next handle and the lowest free transaction and raises the CALL need if it is the first: in LINKED its SETUP
is sent and it is CALLING, and elsewhere it is DIALING, each with its timer; in CAMPED the connection is opened (R162, R164, R165,
R167, R168). That a CALL-SIGNAL without a cause carries cause 255 and code 0 is the model's reading (R166, R210; assumption log,
entry 19). -/
def Obligations.DialMakesACall : Prop :=
  ∀ (s : State) (r : RxRecord), s.Commanded 14 r →
    (digitsOk r.payload 2 = false → ∃ t, exec .dial s = .next t ∧ s.AnswersHost t r .value [] ∧ s.UnitsKept t ∧ s.LineKept t)
    ∧ (digitsOk r.payload 2 = true → s.stepInFlight = true →
      ∃ t, exec .dial s = .next t ∧ s.AnswersHost t r .busy [] ∧ s.UnitsKept t ∧ s.LineKept t)
    ∧ (digitsOk r.payload 2 = true → s.stepInFlight = false → s.foreground? ≠ none →
      ∃ t, exec .dial s = .next t ∧ s.AnswersHost t r .state [] ∧ s.UnitsKept t ∧ s.LineKept t)
    ∧ (digitsOk r.payload 2 = true → s.stepInFlight = false → s.foreground? = none → 4 ≤ s.calls.table.length →
      ∃ t, exec .dial s = .next t ∧ s.AnswersHost t r .full [] ∧ s.UnitsKept t ∧ s.LineKept t)
    ∧ ∀ (c : Call), digitsOk r.payload 2 = true → s.stepInFlight = false → s.foreground? = none → s.calls.table.length < 4 →
      c = { handle := s.nextHandle 15 (s.calls.counter % 15 + 1), out := true, state := .dialing
            number := some (digitsAt r.payload 2), waiting := false, cause := none
            timer := startTimer s.now s.calls.timersHeld 327680, transaction := s.freeTransaction } →
      s.call? c.handle = none →
      (s.svc.state ≠ .linked → s.svc.state ≠ .camped ∨ s.calls.table ≠ [] →
        ∃ t, exec .dial s = .next t ∧ s.AnswersHost t r .done [byte c.handle] ∧ s.LineKept t
          ∧ t.calls = { s.calls with table := insertCall c s.calls.table, counter := c.handle }
          ∧ t.svc = (if s.calls.table = [] then
              { s.svc with needCall := true, traffic := { s.svc.traffic with close := none } } else s.svc)
          ∧ t.air = s.air ∧ t.meas = s.meas ∧ t.ho = s.ho ∧ t.pag = s.pag ∧ t.text = s.text)
      ∧ (s.svc.state = .linked →
        ∃ t, exec .dial s = .next t ∧ s.AnswersHost t r .done [byte c.handle] ∧ s.LineKept t
          ∧ t.calls = { s.calls with
              table := insertCall { c with state := .calling, timer := startTimer s.now s.calls.timersHeld 655360 } s.calls.table
              counter := c.handle }
          ∧ s.line.Sends t.line 2 60
            ([byte s.transceiver, 0, 0, byte c.transaction, 255, 0] ++ fixedDigits (digitsAt r.payload 2))
          ∧ t.svc = (if s.calls.table = [] then
              { s.svc with needCall := true, traffic := { s.svc.traffic with close := none } } else s.svc)
          ∧ (s.enabled .callState = true → t.Tells .callState [byte c.handle, 0, 1])
          ∧ t.air = s.air ∧ t.meas = s.meas ∧ t.ho = s.ho ∧ t.pag = s.pag ∧ t.text = s.text)
      ∧ (s.svc.state = .camped → s.calls.table = [] → s.PlanClear → s.pag.info = none →
        ∃ t id, exec .dial s = .next t ∧ s.AnswersHost t r .done [byte c.handle] ∧ s.LineKept t
          ∧ t.calls = { s.calls with table := [c], counter := c.handle } ∧ t.svc.state = .connecting ∧ t.svc.needCall = true
          ∧ t.svc.conn = { Conn.idle with window := some id }
          ∧ t.Offers .service .access id (after s.now 99) (after (after s.now 99) 1311) ∧ t.pag.running = false
          ∧ t.text = s.text)

/-- ANSWER, HANGUP, HOLD, RESUME and SWAP for the record they name: a handle out of range is VALUE, one that no record has STATE.
Where the state fits, the signal of the command goes to the transceiver, or during a switch to the held uplink list while it has
room, and the records enter the states of the command with their timers; a step in flight or a full list is BUSY, another state
STATE. ANSWER with HOLD is STATE beside a foreground record that is not CONNECTED or with one HELD; with RELEASE it ends the
foreground record, a DIALING one being removed with CALL-CLEARED and no signal. HANGUP of the HOLDING record of a deferred answer
releases it and lets the answer proceed (R137, R165, R166, R169 to R174). That CONNECT, HOLD, RESUME and SWAP, which have no
cause, carry cause 255 and code 0 (entry 19 of the assumption log), and that the swap pair keeps the direction and transaction
SWAP named (entry 23), are the model's readings. -/
def Obligations.HandsetCommandsMoveCalls : Prop :=
  (∀ (s : State) (r : RxRecord) (topic : Nat) (c : Instr), s.Commanded topic r →
    ((topic = 15 ∧ c = .answer) ∨ (topic = 16 ∧ c = .hangup) ∨ (topic = 17 ∧ c = .hold) ∨ (topic = 18 ∧ c = .resume)) →
    (u8 r.payload 2 = 0 ∨ 15 < u8 r.payload 2 ∨ (topic = 15 ∧ 1 < u8 r.payload 3) →
      ∃ t, exec c s = .next t ∧ s.AnswersHost t r .value [] ∧ s.UnitsKept t ∧ s.LineKept t)
    ∧ (1 ≤ u8 r.payload 2 → u8 r.payload 2 ≤ 15 → (topic = 15 → u8 r.payload 3 ≤ 1) → s.call? (u8 r.payload 2) = none →
      ∃ t, exec c s = .next t ∧ s.AnswersHost t r .state [] ∧ s.UnitsKept t ∧ s.LineKept t))
  ∧ (∀ (s : State) (r : RxRecord) (topic : Nat) (c : Instr) (k : Call) (st new : CallState) (n code : Nat),
    s.Commanded topic r → 1 ≤ u8 r.payload 2 → u8 r.payload 2 ≤ 15 → s.call? (u8 r.payload 2) = some k →
    ((topic = 15 ∧ u8 r.payload 3 ≤ 1 ∧ c = .answer ∧ st = .offered ∧ new = .answering ∧ n = 262144 ∧ code = 1)
      ∨ (topic = 17 ∧ c = .hold ∧ st = .connected ∧ new = .holding ∧ n = 163840 ∧ code = 3)
      ∨ (topic = 18 ∧ c = .resume ∧ st = .held ∧ new = .resuming ∧ n = 163840 ∧ code = 4)) →
    (s.stepInFlight = true → ∃ t, exec c s = .next t ∧ s.AnswersHost t r .busy [] ∧ s.UnitsKept t ∧ s.LineKept t)
    ∧ (s.stepInFlight = false → k.state ≠ st ∨ (topic = 17 ∧ s.anyHeld = true) ∨ (topic = 18 ∧ s.foreground? ≠ none) →
      ∃ t, exec c s = .next t ∧ s.AnswersHost t r .state [] ∧ s.UnitsKept t ∧ s.LineKept t)
    ∧ (s.stepInFlight = false → k.state = st → (topic ≠ 17 → s.foreground? = none) → (topic = 17 → s.anyHeld = false) →
      (s.noRoom 1 = true → ∃ t, exec c s = .next t ∧ s.AnswersHost t r .busy [] ∧ s.UnitsKept t ∧ s.LineKept t)
      ∧ (s.noRoom 1 = false →
        ∃ t, exec c s = .next t ∧ s.AnswersHost t r .done [] ∧ s.LineKept t
          ∧ t.calls = { s.calls with
              table := s.calls.table.map fun d =>
                if d.handle == u8 r.payload 2 then
                  { d with state := new, timer := startTimer s.now s.calls.timersHeld n, waiting := false }
                else d }
          ∧ s.Signals t .call 60 ([byte code, if k.out then 0 else 1, byte k.transaction, 255, 0] ++ fixedDigits [])
          ∧ (s.enabled .callState = true → t.Notes .callState)
          ∧ t.air = s.air ∧ t.meas = s.meas ∧ t.svc = s.svc ∧ t.pag = s.pag ∧ t.text = s.text)))
  ∧ (∀ (s : State) (r : RxRecord) (k f : Call), s.Commanded 15 r → 1 ≤ u8 r.payload 2 → u8 r.payload 2 ≤ 15 →
    s.call? (u8 r.payload 2) = some k → k.state = .offered → s.stepInFlight = false → s.foreground? = some f →
    u8 r.payload 3 = 0 →
    (f.state ≠ .connected ∨ s.anyHeld = true →
      ∃ t, exec .answer s = .next t ∧ s.AnswersHost t r .state [] ∧ s.UnitsKept t ∧ s.LineKept t)
    ∧ (f.state = .connected → s.anyHeld = false → s.noRoom 1 = true →
      ∃ t, exec .answer s = .next t ∧ s.AnswersHost t r .busy [] ∧ s.UnitsKept t ∧ s.LineKept t)
    ∧ (f.state = .connected → s.anyHeld = false → s.noRoom 1 = false →
    ∃ t, exec .answer s = .next t ∧ s.AnswersHost t r .done [] ∧ s.LineKept t
      ∧ t.calls = { s.calls with
          deferred := some k.handle
          table := s.calls.table.map fun d =>
            if d.handle == f.handle then
              { d with state := .holding, timer := startTimer s.now s.calls.timersHeld 163840, waiting := false }
            else d }
      ∧ s.Signals t .call 60 ([3, if f.out then 0 else 1, byte f.transaction, 255, 0] ++ fixedDigits [])
      ∧ t.air = s.air ∧ t.meas = s.meas ∧ t.svc = s.svc ∧ t.pag = s.pag ∧ t.text = s.text))
  ∧ (∀ (s : State) (r : RxRecord) (k f : Call), s.Commanded 15 r → 1 ≤ u8 r.payload 2 → u8 r.payload 2 ≤ 15 →
    s.call? (u8 r.payload 2) = some k → k.state = .offered → s.stepInFlight = false → s.foreground? = some f →
    f.handle ≠ k.handle → u8 r.payload 3 = 1 →
    (f.state = .dialing →
      (s.noRoom 1 = true → ∃ t, exec .answer s = .next t ∧ s.AnswersHost t r .busy [] ∧ s.UnitsKept t ∧ s.LineKept t)
      ∧ (s.noRoom 1 = false →
        ∃ t, exec .answer s = .next t ∧ s.AnswersHost t r .done [] ∧ s.LineKept t
          ∧ t.calls = { s.calls with
              table := (s.calls.table.filter fun d => d.handle != f.handle).map fun d =>
                if d.handle == k.handle then
                  { d with state := .answering, timer := startTimer s.now s.calls.timersHeld 262144, waiting := false }
                else d }
          ∧ s.SignalsAll t .call [k.signalling 1 255]
          ∧ (s.enabled .callCleared = true → t.Tells .callCleared [byte f.handle, if f.out then 0 else 1, 0, 0])
          ∧ (s.enabled .callState = true → t.Notes .callState)
          ∧ t.air = s.air ∧ t.meas = s.meas ∧ t.svc = s.svc ∧ t.pag = s.pag ∧ t.text = s.text))
    ∧ (f.state ≠ .dialing →
      (s.noRoom 2 = true → ∃ t, exec .answer s = .next t ∧ s.AnswersHost t r .busy [] ∧ s.UnitsKept t ∧ s.LineKept t)
      ∧ (s.noRoom 2 = false →
        ∃ t, exec .answer s = .next t ∧ s.AnswersHost t r .done [] ∧ s.LineKept t
          ∧ t.calls = { s.calls with
              table := s.calls.table.map fun d =>
                if d.handle == f.handle then
                  { d with
                    state := .clearing, cause := some .local_, timer := startTimer s.now s.calls.timersHeld 196608
                    waiting := false }
                else if d.handle == k.handle then
                  { d with state := .answering, timer := startTimer s.now s.calls.timersHeld 262144, waiting := false }
                else d }
          ∧ s.SignalsAll t .call [f.signalling 2 0, k.signalling 1 255]
          ∧ t.air = s.air ∧ t.meas = s.meas ∧ t.svc = s.svc ∧ t.pag = s.pag ∧ t.text = s.text)))
  ∧ (∀ (s : State) (r : RxRecord) (k : Call), s.Commanded 16 r → 1 ≤ u8 r.payload 2 → u8 r.payload 2 ≤ 15 →
    s.call? (u8 r.payload 2) = some k →
    (k.state = .clearing → ∃ t, exec .hangup s = .next t ∧ s.AnswersHost t r .state [] ∧ s.UnitsKept t ∧ s.LineKept t)
    ∧ (k.state = .dialing →
      ∃ t, exec .hangup s = .next t ∧ s.AnswersHost t r .done [0] ∧ s.LineKept t
        ∧ t.calls.table = s.calls.table.filter (fun d => d.handle != k.handle)
        ∧ (s.enabled .callCleared = true → t.Tells .callCleared [byte k.handle, if k.out then 0 else 1, 0, 0])
        ∧ t.svc.state = s.svc.state ∧ t.air = s.air ∧ t.meas = s.meas ∧ t.pag = s.pag ∧ t.text = s.text)
    ∧ (∀ d : Call, k.state = .holding → s.calls.deferred = some d.handle → s.call? d.handle = some d → d.handle ≠ k.handle →
      (s.noRoom 2 = true → ∃ t, exec .hangup s = .next t ∧ s.AnswersHost t r .busy [] ∧ s.UnitsKept t ∧ s.LineKept t)
      ∧ (s.noRoom 2 = false →
        ∃ t, exec .hangup s = .next t ∧ s.AnswersHost t r .done [byte k.state.code] ∧ s.LineKept t
          ∧ t.calls = { s.calls with
              deferred := none
              pair := s.calls.pair.bind (·.without k.handle)
              table := s.calls.table.map fun e =>
                if e.handle == k.handle then
                  { e with
                    state := .clearing, cause := some .local_, timer := startTimer s.now s.calls.timersHeld 196608
                    waiting := false }
                else if e.handle == d.handle then
                  { e with state := .answering, timer := startTimer s.now s.calls.timersHeld 262144, waiting := false }
                else e }
          ∧ s.SignalsAll t .call [k.signalling 2 0, d.signalling 1 255]
          ∧ (s.enabled .callState = true → t.Notes .callState)
          ∧ t.air = s.air ∧ t.meas = s.meas ∧ t.svc = s.svc ∧ t.pag = s.pag ∧ t.text = s.text))
    ∧ (k.state ∉ [.dialing, .clearing] → (k.state = .holding → s.calls.deferred = none) →
      (s.noRoom 1 = true → ∃ t, exec .hangup s = .next t ∧ s.AnswersHost t r .busy [] ∧ s.UnitsKept t ∧ s.LineKept t)
      ∧ (s.noRoom 1 = false →
        ∃ t, exec .hangup s = .next t ∧ s.AnswersHost t r .done [byte k.state.code] ∧ s.LineKept t
          ∧ t.calls.table = s.calls.table.map (fun d =>
              if d.handle == k.handle then
                { d with
                  state := .clearing, cause := some .local_, timer := startTimer s.now s.calls.timersHeld 196608
                  waiting := false }
              else d)
          ∧ t.calls.pair = s.calls.pair.bind (·.without k.handle)
          ∧ t.calls.deferred = (if s.calls.deferred = some k.handle then none else s.calls.deferred)
          ∧ s.Signals t .call 60 ([2, if k.out then 0 else 1, byte k.transaction, 0, 0] ++ fixedDigits [])
          ∧ (s.enabled .callState = true → t.Notes .callState)
          ∧ t.air = s.air ∧ t.meas = s.meas ∧ t.svc = s.svc ∧ t.pag = s.pag ∧ t.text = s.text)))
  ∧ ∀ (s : State) (r : RxRecord), s.Commanded 19 r →
    (s.stepInFlight = true → ∃ t, exec .swap s = .next t ∧ s.AnswersHost t r .busy [] ∧ s.UnitsKept t ∧ s.LineKept t)
    ∧ (s.stepInFlight = false → ((∀ c ∈ s.calls.table, c.state ≠ .connected) ∨ ∀ c ∈ s.calls.table, c.state ≠ .held) →
      ∃ t, exec .swap s = .next t ∧ s.AnswersHost t r .state [] ∧ s.UnitsKept t ∧ s.LineKept t)
    ∧ ∀ (c h : Call), s.stepInFlight = false → s.calls.table.filter (·.state == .connected) = [c] →
      s.calls.table.filter (·.state == .held) = [h] → c.handle ≠ h.handle → s.noRoom 1 = false →
      ∃ t, exec .swap s = .next t ∧ s.AnswersHost t r .done [] ∧ s.LineKept t
        ∧ t.calls = { s.calls with
            pair := some
              { out := c.out, transaction := c.transaction, holding := some c.handle, resuming := some h.handle }
            table := s.calls.table.map fun d =>
              if d.handle == c.handle then
                { d with state := .holding, timer := startTimer s.now s.calls.timersHeld 163840, waiting := false }
              else if d.handle == h.handle then
                { d with state := .resuming, timer := startTimer s.now s.calls.timersHeld 163840, waiting := false }
              else d }
        ∧ s.Signals t .call 60 ([5, if c.out then 0 else 1, byte c.transaction, 255, 0] ++ fixedDigits [])
        ∧ (s.enabled .callState = true → t.Notes .callState)
        ∧ t.air = s.air ∧ t.meas = s.meas ∧ t.svc = s.svc ∧ t.pag = s.pag ∧ t.text = s.text

/-- CALL_EVENT: out of connection, and for a transaction that no record has, it changes nothing. PROCEEDING restarts the timer of
a CALLING record; ALERTING and CONNECTED move the record as R177 says, and the acceptances and refusals of a plain hold or resume
as R178 does; HOLD-ACK with a deferred answer sends its CONNECT, HOLD-REJ abandons it; RELEASED removes the record with the
network's cause, takes it out of the swap pair and clears its own deferred answer, while that of the HOLDING record lets the
deferred answer proceed, or, with the held uplink list full, removes its record BLOCKED; SWAP-ACK and SWAP-REJ settle the swap
pair; an OFFER makes a record OFFERED, or is refused BUSY-HERE by a full table (R175 to R179, R183). That the deferred answer's
CONNECT carries cause 255 and code 0 (entry 19 of the assumption log), and that SWAP-ACK and SWAP-REJ are matched with the
direction and transaction the pair keeps (entry 23), are the model's readings. -/
def Obligations.CallEventsMoveCalls : Prop :=
  ∀ (s : State) (r : RxRecord), s.Receives 47 r →
    (s.connected = false ∨ (u8 r.payload 1 ∉ [8, 9, 10] ∧ s.callOf (u8 r.payload 2 == 0) (u8 r.payload 3) = none)
        ∨ (u8 r.payload 1 ∈ [8, 9] ∧ s.calls.pair = none)
        ∨ (u8 r.payload 1 = 10 ∧ (s.callOf false (u8 r.payload 3)).isSome = true) →
      exec .callEvent s = .next s.completeRecord)
    ∧ (∀ c : Call, s.connected = true → s.callOf (u8 r.payload 2 == 0) (u8 r.payload 3) = some c →
      s.call? c.handle = some c →
      (u8 r.payload 1 = 0 → c.state = .calling →
        exec .callEvent s = .next
          { s.completeRecord with calls :=
            { s.calls with table := s.calls.table.map fun d =>
              if d.handle == c.handle then { d with timer := startTimer s.now s.calls.timersHeld 655360 } else d } })
      ∧ (∀ new : CallState, (4 ≤ u8 r.payload 1 → s.inPair c.handle = false) →
        (4 ≤ u8 r.payload 1 → u8 r.payload 1 ≤ 5 → s.calls.deferred = none) →
        (u8 r.payload 1, c.state, new) ∈ [(1, .calling, .ringback), (2, .calling, .connected), (2, .ringback, .connected),
          (2, .answering, .connected), (4, .holding, .held), (5, .holding, .connected), (6, .resuming, .connected),
          (7, .resuming, .held)] →
        ∃ t, exec .callEvent s = .next t
          ∧ t.calls = { s.calls with
              table := s.calls.table.map fun d =>
                if d.handle == c.handle then { d with state := new, timer := .off, waiting := false } else d }
          ∧ (s.enabled .callState = true → t.Notes .callState)
          ∧ t.air = s.air ∧ t.meas = s.meas ∧ t.svc = s.svc ∧ t.ho = s.ho ∧ t.pag = s.pag ∧ t.text = s.text)
      ∧ (∀ d : Call, u8 r.payload 1 = 4 → c.state = .holding → s.inPair c.handle = false → s.calls.deferred = some d.handle →
        s.call? d.handle = some d → d.handle ≠ c.handle → s.noRoom 1 = false →
        ∃ t, exec .callEvent s = .next t
          ∧ t.calls = { s.calls with
              deferred := none
              table := s.calls.table.map fun e =>
                if e.handle == c.handle then { e with state := .held, timer := .off, waiting := false }
                else if e.handle == d.handle then
                  { e with
                    state := .answering, timer := startTimer s.now s.calls.timersHeld 262144, waiting := false }
                else e }
          ∧ s.Signals t .call 60 ([1, if d.out then 0 else 1, byte d.transaction, 255, 0] ++ fixedDigits [])
          ∧ t.air = s.air ∧ t.meas = s.meas ∧ t.svc = s.svc ∧ t.pag = s.pag ∧ t.text = s.text)
      ∧ (∀ d : Call, u8 r.payload 1 = 5 → c.state = .holding → s.inPair c.handle = false → s.calls.deferred = some d.handle →
        s.call? d.handle = some d → d.handle ≠ c.handle →
        ∃ t, exec .callEvent s = .next t
          ∧ t.calls = { s.calls with
              deferred := none
              table := s.calls.table.map fun e =>
                if e.handle == c.handle then { e with state := .connected, timer := .off, waiting := false } else e }
          ∧ (s.enabled .callState = true → (s.calls.table.Pairwise fun e f => e.handle < f.handle) →
            t.Tells .callState (if c.handle < d.handle then [byte d.handle, byte d.state.code, byte d.state.code]
              else [byte c.handle, byte CallState.holding.code, byte CallState.connected.code]))
          ∧ t.air = s.air ∧ t.meas = s.meas ∧ t.svc = s.svc ∧ t.ho = s.ho ∧ t.pag = s.pag ∧ t.text = s.text)
      ∧ (∀ cause : CallCause, u8 r.payload 1 = 3 → c.state ≠ .dialing →
        cause = (if c.state = .clearing then c.cause.getD (.network (u8 r.payload 4)) else .network (u8 r.payload 4)) →
        ((c.state = .holding → s.calls.deferred = none ∨ s.calls.deferred = some c.handle) →
          ∃ t, exec .callEvent s = .next t
            ∧ t.calls = { s.calls with
                deferred := if s.calls.deferred = some c.handle then none else s.calls.deferred
                pair := s.calls.pair.bind (·.without c.handle)
                table := s.calls.table.filter fun d => d.handle != c.handle }
            ∧ (s.enabled .callCleared = true →
              t.Tells .callCleared [byte c.handle, if c.out then 0 else 1, byte cause.code, byte cause.netCode])
            ∧ t.svc.state = s.svc.state ∧ t.air = s.air ∧ t.meas = s.meas ∧ t.ho = s.ho ∧ t.pag = s.pag ∧ t.text = s.text)
        ∧ ∀ d : Call, c.state = .holding → s.calls.deferred = some d.handle → s.call? d.handle = some d → d.handle ≠ c.handle →
          (s.noRoom 1 = false →
            ∃ t, exec .callEvent s = .next t
              ∧ t.calls = { s.calls with
                  deferred := none
                  pair := s.calls.pair.bind (·.without c.handle)
                  table := (s.calls.table.filter fun e => e.handle != c.handle).map fun e =>
                    if e.handle == d.handle then
                      { e with
                        state := .answering, timer := startTimer s.now s.calls.timersHeld 262144, waiting := false }
                    else e }
              ∧ s.SignalsAll t .call [d.signalling 1 255]
              ∧ (s.enabled .callCleared = true →
                t.Tells .callCleared [byte c.handle, if c.out then 0 else 1, byte cause.code, byte cause.netCode])
              ∧ t.air = s.air ∧ t.meas = s.meas ∧ t.svc = s.svc ∧ t.pag = s.pag ∧ t.text = s.text)
          ∧ (s.noRoom 1 = true →
            ∃ t, exec .callEvent s = .next t
              ∧ t.calls = { s.calls with
                  deferred := none
                  pair := s.calls.pair.bind (·.without c.handle)
                  table := s.calls.table.filter fun e => e.handle != c.handle && e.handle != d.handle }
              ∧ (s.enabled .callCleared = true →
                t.Tells .callCleared (if c.handle < d.handle then
                    [byte d.handle, if d.out then 0 else 1, byte CallCause.blocked.code, byte CallCause.blocked.netCode]
                  else [byte c.handle, if c.out then 0 else 1, byte cause.code, byte cause.netCode]))
              ∧ t.svc.state = s.svc.state ∧ t.air = s.air ∧ t.meas = s.meas ∧ t.ho = s.ho ∧ t.pag = s.pag
              ∧ t.text = s.text)))
    ∧ (∀ (p : SwapPair) (h k : Nat) (first second : CallState), s.connected = true →
      (u8 r.payload 1 = 8 ∧ first = .held ∧ second = .connected
        ∨ u8 r.payload 1 = 9 ∧ first = .connected ∧ second = .held) →
      s.calls.pair = some p → p.out = (u8 r.payload 2 == 0) → p.transaction = u8 r.payload 3 → p.holding = some h →
      p.resuming = some k → h ≠ k →
      ∃ t, exec .callEvent s = .next t
        ∧ t.calls = { s.calls with
            pair := none
            table := s.calls.table.map fun d =>
              if d.handle == h then { d with state := first, timer := .off, waiting := false }
              else if d.handle == k then { d with state := second, timer := .off, waiting := false }
              else d }
        ∧ t.air = s.air ∧ t.meas = s.meas ∧ t.svc = s.svc ∧ t.ho = s.ho ∧ t.pag = s.pag ∧ t.text = s.text)
    ∧ (s.connected = true → u8 r.payload 1 = 10 → s.callOf false (u8 r.payload 3) = none →
      (4 ≤ s.calls.table.length → s.noRoom 1 = false →
        ∃ t, exec .callEvent s = .next t ∧ t.calls = s.calls
          ∧ s.Signals t .call 60 ([2, 1, byte (u8 r.payload 3), 6, 0] ++ fixedDigits [])
          ∧ t.air = s.air ∧ t.meas = s.meas ∧ t.svc = s.svc ∧ t.pag = s.pag ∧ t.text = s.text)
      ∧ (∀ c : Call, s.calls.table.length < 4 →
        c = { handle := s.nextHandle 15 (s.calls.counter % 15 + 1), out := false, state := .offered
              number := if u8 r.payload 5 = 0 then none else some (digitsAt r.payload 5)
              waiting := s.calls.table.any fun d => d.state.foreground || d.state.background
              cause := none, timer := .off, transaction := u8 r.payload 3 } →
        ∃ t, exec .callEvent s = .next t
          ∧ t.calls = { s.calls with table := insertCall c s.calls.table, counter := c.handle }
          ∧ (s.calls.table = [] → t.svc.needCall = true)
          ∧ (s.enabled .callOffered = true →
            t.Tells .callOffered [byte c.handle, byte c.waiting.toNat, byte (u8 r.payload 5)])
          ∧ t.air = s.air ∧ t.meas = s.meas ∧ t.ho = s.ho ∧ t.pag = s.pag ∧ t.text = s.text))

/-- CALL_TIMER_EXPIRY by the state of the record: DIALING is removed, with cause NO-ACCESS while CONNECTING and NO-SERVICE
otherwise; CALLING and ANSWERING send RELEASE and enter CLEARING with cause NETWORK-TIMEOUT; HOLDING and RESUMING go back to
CONNECTED and HELD, both of a swap pair together, and a deferred answer is cleared; CLEARING is removed with its cause. With no
timer running nothing changes (R165, R183). -/
def Obligations.CallTimersExpire : Prop :=
  (∀ (h : Nat) (s : State), s.Ready → (∀ c, s.call? h = some c → c.timer.deadline = none) →
    exec (.callTimerExpiry h) s = .next s)
  ∧ ∀ (h : Nat) (s : State) (c : Call) (tk : Tick), s.Ready → s.call? h = some c → c.timer = .running tk →
    (∀ cause : CallCause, c.state = .dialing ∧ cause = (if s.svc.state = .connecting then .noAccess else .noService)
        ∨ c.state = .clearing ∧ c.cause = some cause →
      ∃ t, exec (.callTimerExpiry h) s = .next t ∧ t.calls.table = s.calls.table.filter (fun d => d.handle != h)
        ∧ (s.enabled .callCleared = true →
          t.Tells .callCleared [byte h, if c.out then 0 else 1, byte cause.code, byte cause.netCode])
        ∧ (t.calls.table = [] → t.svc.needCall = false) ∧ t.svc.state = s.svc.state
        ∧ t.air = (s.reach tk).air ∧ t.meas = s.meas ∧ t.ho = s.ho ∧ t.pag = s.pag ∧ t.text = s.text)
    ∧ (c.state = .calling ∨ c.state = .answering → s.noRoom 1 = false →
      ∃ t, exec (.callTimerExpiry h) s = .next t
        ∧ t.calls = { s.calls with
            table := s.calls.table.map fun d =>
              if d.handle == h then
                { d with
                  state := .clearing, cause := some .networkTimeout
                  timer := startTimer (s.reach tk).now s.calls.timersHeld 196608, waiting := false }
              else d }
        ∧ s.Signals t .call 60 ([2, if c.out then 0 else 1, byte c.transaction, 5, 0] ++ fixedDigits [])
        ∧ t.air = (s.reach tk).air ∧ t.meas = s.meas ∧ t.svc = s.svc ∧ t.pag = s.pag ∧ t.text = s.text)
    ∧ (∀ new : CallState, c.state = .holding ∧ new = .connected ∨ c.state = .resuming ∧ new = .held → s.inPair h = false →
      ∃ t, exec (.callTimerExpiry h) s = .next t
        ∧ t.calls = { s.calls with
            deferred := if c.state = .holding then none else s.calls.deferred
            table := s.calls.table.map fun d =>
              if d.handle == h then { d with state := new, timer := .off, waiting := false } else d }
        ∧ (s.enabled .callState = true → t.Notes .callState)
        ∧ t.air = (s.reach tk).air ∧ t.meas = s.meas ∧ t.svc = s.svc ∧ t.ho = s.ho ∧ t.pag = s.pag ∧ t.text = s.text)
    ∧ ∀ (p : SwapPair) (a b : Nat), c.state = .holding ∨ c.state = .resuming → s.calls.pair = some p → p.holding = some a →
      p.resuming = some b → a ≠ b → h = a ∨ h = b →
      ∃ t, exec (.callTimerExpiry h) s = .next t
        ∧ t.calls = { s.calls with
            pair := none
            table := s.calls.table.map fun d =>
              if d.handle == a then { d with state := .connected, timer := .off, waiting := false }
              else if d.handle == b then { d with state := .held, timer := .off, waiting := false }
              else d }
        ∧ t.air = (s.reach tk).air ∧ t.meas = s.meas ∧ t.svc = s.svc ∧ t.ho = s.ho ∧ t.pag = s.pag ∧ t.text = s.text

/-! ### Texts -/

/-- SEND_BEGIN, SEND_PIECE, SEND_GO and SEND_CANCEL: a malformed number or a length above 320 is VALUE, a COMPOSING text or its
want STATE, three texts FULL. Else the text is begun unwritten, written at its positions, queued with the next reference and its
unwritten bytes as 0x20, or dropped; each cancels the read cursor and a pending read. Queued as the only one in LINKED the text's
first segment is sent, and in CAMPED the connection is opened; queued behind others, one of them SENDING where the part is LINKED,
it waits and nothing else changes (R198, R200 to R202). That the NO-TEXT ANSWER of the cancelled read goes to the station that
sent the READ-TEXT is the model's choice (assumption log, entry 33: DEDUCED). -/
def Obligations.TextsAreComposed : Prop :=
  (∀ (s : State) (r : RxRecord), s.Commanded 20 r →
    (digitsOk r.payload 2 = false ∨ 320 < u16 r.payload 13 →
      ∃ t, exec .sendBegin s = .next t ∧ s.AnswersHost t r .value [] ∧ s.UnitsKept t ∧ s.LineKept t)
    ∧ (digitsOk r.payload 2 = true → u16 r.payload 13 ≤ 320 → s.composing? ≠ none →
      ∃ t, exec .sendBegin s = .next t ∧ s.AnswersHost t r .state [] ∧ s.UnitsKept t ∧ s.LineKept t)
    ∧ (digitsOk r.payload 2 = true → u16 r.payload 13 ≤ 320 → s.composing? = none → 3 ≤ s.text.outbound.length →
      ∃ t, exec .sendBegin s = .next t ∧ s.AnswersHost t r .full [] ∧ s.UnitsKept t ∧ s.LineKept t)
    ∧ (digitsOk r.payload 2 = true → u16 r.payload 13 ≤ 320 → s.composing? = none → s.text.outbound.length < 3 →
      ∃ t, exec .sendBegin s = .next t ∧ s.AnswersHost t r .done [] ∧ s.LineKept t
        ∧ t.text = { s.text with
            pendingRead := none, readCursor := none
            outbound := s.text.outbound ++
              [{ dest := digitsAt r.payload 2, body := List.replicate (u16 r.payload 13) none, state := .composing
                 reference := 0, goTick := 0, segment := 0, wait := .off, resent := false }] }
        ∧ (∀ q, s.text.pendingRead = some q → s.line.Sends t.line 4 32 [byte q.source, byte q.topic, byte q.reference, 5])
        ∧ t.air = s.air ∧ t.meas = s.meas ∧ t.svc = s.svc ∧ t.ho = s.ho ∧ t.pag = s.pag ∧ t.calls = s.calls))
  ∧ (∀ (s : State) (r : RxRecord) (topic : Nat) (c : Instr), s.Commanded topic r → s.composing? = none →
    ((topic = 21 ∧ c = .sendPiece) ∨ (topic = 22 ∧ c = .sendGo) ∨ (topic = 23 ∧ c = .sendCancel)) →
    ∃ t, exec c s = .next t ∧ s.AnswersHost t r .state [] ∧ s.UnitsKept t ∧ s.LineKept t)
  ∧ (∀ (s : State) (r : RxRecord) (o : OutText), s.Commanded 21 r → s.composing? = some o →
    ∃ t, exec .sendPiece s = .next t ∧ s.AnswersHost t r .done [] ∧ s.LineKept t
      ∧ t.text = { s.text with
          pendingRead := none, readCursor := none
          outbound := s.text.outbound.map fun p =>
            if p.state == .composing then { p with body := writePiece p.body (u16 r.payload 2) (r.payload.drop 4) } else p }
      ∧ (∃ b, t.composing? = some { o with body := b } ∧ b.length = o.body.length
        ∧ (∀ (k : Nat) (v : Byte), (r.payload.drop 4)[k]? = some v → r.payload.length ≤ o.body.length + 4 → o.body ≠ [] →
          b[(u16 r.payload 2 + k) % o.body.length]? = some (some v))
        ∧ ∀ i < o.body.length, (∀ k < r.payload.length - 4, (u16 r.payload 2 + k) % o.body.length ≠ i) → b[i]? = o.body[i]?)
      ∧ t.air = s.air ∧ t.meas = s.meas ∧ t.svc = s.svc ∧ t.ho = s.ho ∧ t.pag = s.pag ∧ t.calls = s.calls)
  ∧ (∀ (s : State) (r : RxRecord), s.Commanded 23 r → s.composing? ≠ none →
    ∃ t, exec .sendCancel s = .next t ∧ s.AnswersHost t r .done [] ∧ s.LineKept t
      ∧ t.text = { s.text with
          pendingRead := none, readCursor := none, outbound := s.text.outbound.filter fun o => o.state != .composing }
      ∧ t.air = s.air ∧ t.meas = s.meas ∧ t.svc = s.svc ∧ t.ho = s.ho ∧ t.pag = s.pag ∧ t.calls = s.calls)
  ∧ ∀ (s : State) (r : RxRecord) (o q : OutText), s.Commanded 22 r → s.composing? = some o →
    q = { o with
      body := o.body.map (fun b => some (b.getD 0x20)), state := .queued, reference := s.text.refCounter, goTick := s.now } →
    ((∃ p ∈ s.text.outbound, p.state ≠ .composing) →
      s.svc.state ≠ .linked ∨ (∃ p ∈ s.text.outbound, p.state = .sending) →
      ∃ t, exec .sendGo s = .next t ∧ s.AnswersHost t r .done [byte s.text.refCounter] ∧ s.LineKept t
        ∧ t.text = { s.text with
            pendingRead := none, readCursor := none, refCounter := (s.text.refCounter + 1) % 256
            outbound := s.text.outbound.filter (fun p => p.state != .composing) ++ [q] }
        ∧ t.svc = s.svc ∧ t.air = s.air ∧ t.meas = s.meas ∧ t.ho = s.ho ∧ t.pag = s.pag ∧ t.calls = s.calls)
    ∧ (s.svc.state ∉ [.linked, .camped] →
      ∃ t, exec .sendGo s = .next t ∧ s.AnswersHost t r .done [byte s.text.refCounter] ∧ s.LineKept t
        ∧ t.text = { s.text with
            pendingRead := none, readCursor := none, refCounter := (s.text.refCounter + 1) % 256
            outbound := s.text.outbound.filter (fun p => p.state != .composing) ++ [q] }
        ∧ ((∀ p ∈ s.text.outbound, p.state = .composing) → t.svc.needText = true)
        ∧ t.air = s.air ∧ t.meas = s.meas ∧ t.ho = s.ho ∧ t.pag = s.pag ∧ t.calls = s.calls)
    ∧ (s.svc.state = .linked → s.text.outbound = [o] →
      ∃ t, exec .sendGo s = .next t ∧ s.AnswersHost t r .done [byte s.text.refCounter] ∧ s.LineKept t
        ∧ t.text = { s.text with
            pendingRead := none, readCursor := none, refCounter := (s.text.refCounter + 1) % 256
            outbound := [{ q with
              state := .sending, segment := 1, resent := false, wait := startTimer s.now s.text.timersHeld 327680 }] }
        ∧ t.svc.needText = true
        ∧ s.line.Sends t.line 2 61
          (byte s.transceiver ::
            (fixedDigits o.dest ++ [byte s.text.refCounter, byte (max 1 ((o.body.length + 39) / 40)), 1, byte (min 40 o.body.length)]
              ++ (o.body.take 40).map fun b => b.getD 0x20))
        ∧ t.air = s.air ∧ t.meas = s.meas ∧ t.ho = s.ho ∧ t.pag = s.pag ∧ t.calls = s.calls)
    ∧ (s.svc.state = .camped → s.text.outbound = [o] → s.PlanClear → s.pag.info = none →
      ∃ t id, exec .sendGo s = .next t ∧ s.AnswersHost t r .done [byte s.text.refCounter] ∧ s.LineKept t
        ∧ t.text.outbound = [q] ∧ t.svc.state = .connecting ∧ t.svc.needText = true
        ∧ t.svc.conn = { Conn.idle with window := some id }
        ∧ t.Offers .service .access id (after s.now 99) (after (after s.now 99) 1311) ∧ t.calls = s.calls)

/-- TEXT_ACK: one for no segment awaited changes nothing. An acceptance of a segment before the last sends the next one; of the
last one the text is sent; a rejection fails it with the network's cause. SEND_ACK_WAIT_EXPIRY sends the segment once more, and
the second time the text fails. A text that ends leaves the outbound queue, and with it the TEXT need (R203). -/
def Obligations.SentTextsAreAcknowledged : Prop :=
  (∀ (s : State) (r : RxRecord), s.Receives 49 r →
    (s.connected = false ∨ s.sending? = none
        ∨ ∃ o, s.sending? = some o ∧ (u8 r.payload 1 ≠ o.reference ∨ u8 r.payload 2 ≠ o.segment)) →
    exec .textAck s = .next s.completeRecord)
  ∧ ∀ (s : State) (c : Instr) (now : Tick) (o p : OutText), s.Ready → s.svc.state = .linked → s.text.outbound = [o] →
    o.state = .sending →
    ((∃ r, c = .textAck ∧ s.Receives 49 r ∧ u8 r.payload 1 = o.reference ∧ u8 r.payload 2 = o.segment ∧ u8 r.payload 3 = 0
        ∧ o.segment < o.segments ∧ now = s.now
        ∧ p = { o with segment := o.segment + 1, resent := false, wait := startTimer now s.text.timersHeld 327680 })
      ∨ (∃ tk, c = .sendAckWaitExpiry ∧ o.wait = .running tk ∧ o.resent = false ∧ now = (s.reach tk).now
        ∧ p = { o with resent := true, wait := startTimer now s.text.timersHeld 327680 }) →
      ∃ t, exec c s = .next t ∧ t.text = { s.text with outbound := [p] } ∧ s.line.Sends t.line 2 61 (byte s.transceiver :: p.sendFields)
        ∧ t.air.plan = s.air.plan ∧ t.meas = s.meas ∧ t.svc = s.svc ∧ t.ho = s.ho ∧ t.pag = s.pag ∧ t.calls = s.calls)
    ∧ ∀ (k : NoticeKind) (detail : List Byte),
      ((∃ r, c = .textAck ∧ s.Receives 49 r ∧ u8 r.payload 1 = o.reference ∧ u8 r.payload 2 = o.segment
          ∧ (u8 r.payload 3 = 0 ∧ o.segments ≤ o.segment ∧ k = .textSent ∧ detail = [byte o.reference]
            ∨ u8 r.payload 3 ≠ 0 ∧ k = .textFailed ∧ detail = [byte o.reference, 1, byte (u8 r.payload 4)]))
        ∨ (∃ tk, c = .sendAckWaitExpiry ∧ o.wait = .running tk ∧ o.resent = true ∧ k = .textFailed
          ∧ detail = [byte o.reference, 5, 0])) →
      ∃ t, exec c s = .next t ∧ t.text = { s.text with outbound := [] } ∧ (s.enabled k = true → t.Tells k detail)
        ∧ t.svc.needText = false ∧ t.svc.state = .linked ∧ t.air.plan = s.air.plan ∧ t.meas = s.meas ∧ t.ho = s.ho
        ∧ t.pag = s.pag ∧ t.calls = s.calls

/-- READ_TEXT of a number sends the record's TEXT-HEAD or TEXT-DATA and moves the read cursor; NEXT does so for the record the
unread cursor is on and moves that cursor to the next newer one, or with none there waits as the pending read, when it is answered
with number 0. READ_MORE goes on from the read cursor. RELEASE_TEXT takes the oldest record alone, and REWIND sets the unread
cursor on it. What is named but not held is NO-TEXT or STATE, and a second pending read BUSY (R196 to R199). A switch does not
affect a release (R139): a STORE-AVAILABLE that it makes due joins the held uplink list, the exchange AWAITING with its ack wait,
or is dropped by a full list, the exchange AWAITING all the same (R137, R194, R195). That the release goes on with a full list is
read from R139 and R195 against the room check of R137 (assumption log, entry 37), and that the ANSWER of a cancelled pending read
goes to the station that sent its READ-TEXT is the model's choice (entry 33). -/
def Obligations.StoredTextsAreRead : Prop :=
  (∀ (s : State) (r : RxRecord), s.Commanded 24 r →
    (u16 r.payload 2 = 0 → s.text.pendingRead ≠ none →
      ∃ t, exec .readText s = .next t ∧ s.AnswersHost t r .busy [] ∧ s.UnitsKept t ∧ s.LineKept t)
    ∧ (u16 r.payload 2 ≠ 0 → s.text.find? (u16 r.payload 2) = none →
      ∃ t, exec .readText s = .next t ∧ s.AnswersHost t r .noText [] ∧ s.UnitsKept t ∧ s.LineKept t)
    ∧ (u16 r.payload 2 = 0 → s.text.pendingRead = none → s.text.unread = none →
      ∃ t, exec .readText s = .next t ∧ s.AnswersHost t r .done [0, 0] ∧ s.LineKept t
        ∧ t.text = { s.text with
            readCursor := none
            pendingRead := some { source := r.source, topic := 24, reference := r.ref, offset := u16 r.payload 4 } }
        ∧ t.air = s.air ∧ t.meas = s.meas ∧ t.svc = s.svc ∧ t.ho = s.ho ∧ t.pag = s.pag ∧ t.calls = s.calls)
    ∧ ∀ (x : StoredText) (unread : Option Nat),
      (u16 r.payload 2 ≠ 0 ∧ s.text.find? (u16 r.payload 2) = some x ∧ unread = s.text.unread
        ∨ u16 r.payload 2 = 0 ∧ s.text.pendingRead = none ∧ s.text.unread.bind s.text.find? = some x
          ∧ unread = nextNewer x.number s.text.store) →
      ∃ t next, exec .readText s = .next t ∧ s.AnswersHost t r .done (bytes2 x.number) ∧ s.LineKept t
        ∧ next = (if u16 r.payload 4 = 65535 then 0 else u16 r.payload 4 + ((x.body.drop (u16 r.payload 4)).take 48).length)
        ∧ t.text = { s.text with
            pendingRead := none, readCursor := some (x.number, next), unread := unread
            store := s.text.store.map fun y => if y.number == x.number then { y with seen := true } else y }
        ∧ (u16 r.payload 4 = 65535 → s.line.Sends t.line 7 38 (textHead s.host r.ref x))
        ∧ (u16 r.payload 4 ≠ 65535 → s.line.Sends t.line 7 39
          ([byte s.host, byte r.ref] ++ bytes2 x.number ++ bytes2 (u16 r.payload 4)
            ++ [if x.body.length ≤ next then 1 else 0] ++ (x.body.drop (u16 r.payload 4)).take 48))
        ∧ (∀ q, s.text.pendingRead = some q → s.line.Sends t.line 4 32 [byte q.source, byte q.topic, byte q.reference, 5])
        ∧ t.air = s.air ∧ t.meas = s.meas ∧ t.svc = s.svc ∧ t.ho = s.ho ∧ t.pag = s.pag ∧ t.calls = s.calls)
  ∧ (∀ (s : State) (r : RxRecord), s.Commanded 25 r →
    (s.text.readCursor = none → ∃ t, exec .readMore s = .next t ∧ s.AnswersHost t r .state [] ∧ s.UnitsKept t ∧ s.LineKept t)
    ∧ ∀ (n off : Nat) (x : StoredText), s.text.readCursor = some (n, off) → s.text.find? n = some x →
      ∃ t next, exec .readMore s = .next t ∧ s.AnswersHost t r .done (bytes2 n) ∧ s.LineKept t
        ∧ next = off + ((x.body.drop off).take 48).length
        ∧ t.text = { s.text with pendingRead := none, readCursor := some (n, next) }
        ∧ s.line.Sends t.line 7 39
          ([byte s.host, byte r.ref] ++ bytes2 n ++ bytes2 off ++ [if x.body.length ≤ next then 1 else 0]
            ++ (x.body.drop off).take 48)
        ∧ t.air = s.air ∧ t.meas = s.meas ∧ t.svc = s.svc ∧ t.ho = s.ho ∧ t.pag = s.pag ∧ t.calls = s.calls)
  ∧ (∀ (s : State) (r : RxRecord), s.Commanded 26 r →
    (s.text.find? (u16 r.payload 2) = none →
      ∃ t, exec .releaseText s = .next t ∧ s.AnswersHost t r .noText [] ∧ s.UnitsKept t ∧ s.LineKept t)
    ∧ ∀ (x : StoredText) (xs : List StoredText), s.text.store = x :: xs → s.text.find? (u16 r.payload 2) ≠ none →
      (x.number ≠ u16 r.payload 2 →
        ∃ t, exec .releaseText s = .next t ∧ s.AnswersHost t r .state [] ∧ s.UnitsKept t ∧ s.LineKept t)
      ∧ (x.number = u16 r.payload 2 → s.inSwitch = true → s.text.exchange = .owed → (s.text.released x).availDue = true →
        ∃ t, exec .releaseText s = .next t ∧ s.AnswersHost t r .done [] ∧ t.text.store = xs ∧ t.text.exchange = .awaiting
          ∧ t.text.refusedSince = false ∧ t.text.ackWait = startTimer s.now s.text.timersHeld 327680
          ∧ t.svc = { s.svc with needStore := true, traffic := { s.svc.traffic with close := none } }
          ∧ t.ho = (if s.ho.uplink.length < 8 then
              { s.ho with uplink := s.ho.uplink ++ [⟨.text, 59, [byte s.transceiver]⟩] } else s.ho))
      ∧ (x.number = u16 r.payload 2 → s.text.exchange ∉ [.owed, .due] ∨ s.svc.state ≠ .camped →
        ∃ t, exec .releaseText s = .next t ∧ s.AnswersHost t r .done [] ∧ s.LineKept t ∧ t.text.store = xs
          ∧ t.text.unread = (if s.text.unread = some x.number then xs.head?.map (·.number) else s.text.unread)
          ∧ t.text.readCursor = none ∧ t.text.pendingRead = none
          ∧ t.text.halfArmed = (s.text.halfArmed || decide (t.text.used ≤ 2048))
          ∧ (s.text.exchange ∉ [.owed, .due] → t.text.exchange = s.text.exchange ∧ t.svc = s.svc ∧ t.ho = s.ho)
          ∧ t.air = s.air ∧ t.meas = s.meas ∧ t.pag = s.pag ∧ t.calls = s.calls))
  ∧ ∀ (s : State) (r : RxRecord), s.Commanded 27 r →
    ∃ t, exec .rewind s = .next t ∧ s.AnswersHost t r .done [] ∧ s.LineKept t
      ∧ t.text = { s.text with pendingRead := none, readCursor := none, unread := s.text.store.head?.map (·.number) }
      ∧ t.air = s.air ∧ t.meas = s.meas ∧ t.svc = s.svc ∧ t.ho = s.ho ∧ t.pag = s.pag ∧ t.calls = s.calls

/-- TEXT_SEGMENT: out of connection it changes nothing, and a malformed one is only answered BAD. A piece held already is answered
OK again; one without room, for an open assembly or a new one, is answered STORE-FULL, told to the host, and capacity is owed, the
exchange going from NONE or DUE to OWED, remembering the refusal in AWAITING, and staying in OWED and RETRY; one that its assembly
lacks is put into it, and the last one lacking closes the assembly, which is stored complete; the first piece of several opens an
assembly, and a text of one piece is stored at once as complete; with six assemblies open the earliest is first stored as
incomplete. ASSEMBLY_TIMEOUT stores the earliest assembly as incomplete (R186 to R191, R193, R194). A stored text is numbered,
moves the unread cursor from END to it, serves a read that is pending, and above 2048 used bytes spends the half flag (R191, R192,
R197). With the counts changed the test of R194 is made in every state of the exchange, which in OWED or DUE goes to AWAITING or
back to OWED. STORE_RETRY_TICK ends RETRY. AVAIL_ACK, in any state of the exchange, ends it; where a segment was refused since the
offer, it forgets that refusal, ends the wait and the retry tick and goes on to OWED or, STORE-AVAILABLE being due, to DUE, where
it is sent at once in a connection and the connection is opened from CAMPED. AVAIL_ACK_WAIT_EXPIRY moves AWAITING to RETRY (R115,
R194, R195). -/
def Obligations.SegmentsAreAssembled : Prop :=
  (∀ (s : State) (r : RxRecord), s.Receives 48 r →
    (s.connected = false → exec .textSegment s = .next s.completeRecord)
    ∧ (s.connected = true → s.noRoom 1 = false →
      (segmentBad r.payload = true →
        ∃ t, exec .textSegment s = .next t ∧ t.text = s.text
          ∧ s.Signals t .text 62 ((r.payload.drop 1).take 11 ++ [byte (u8 r.payload 12), byte (u8 r.payload 13), byte (u8 r.payload 14), 1])
          ∧ t.air = s.air ∧ t.meas = s.meas ∧ t.svc = s.svc ∧ t.pag = s.pag ∧ t.calls = s.calls)
      ∧ (segmentBad r.payload = false →
        (∀ a, s.text.assemblies.find? (·.hasKey r.payload) = some a → a.pieces.any (·.index == u8 r.payload 14) = true →
          ∃ t, exec .textSegment s = .next t ∧ t.text = s.text
            ∧ s.Signals t .text 62
              (fixedDigits a.originator ++ [byte (u8 r.payload 12), byte (u8 r.payload 13), byte (u8 r.payload 14), 0])
            ∧ t.air = s.air ∧ t.meas = s.meas ∧ t.svc = s.svc ∧ t.pag = s.pag ∧ t.calls = s.calls)
        ∧ (∀ a b : Assembly, s.text.assemblies.find? (·.hasKey r.payload) = some a →
          a.pieces.any (·.index == u8 r.payload 14) = false →
          b = { a with pieces := a.pieces ++
            [{ index := u8 r.payload 14, body := (r.payload.drop 22).take (u8 r.payload 21) }] } →
          (s.text.room < u8 r.payload 21 →
            ∃ t, exec .textSegment s = .next t ∧ s.RefusesSegment t r.payload (u8 r.payload 21))
          ∧ (u8 r.payload 21 ≤ s.text.room →
            (∀ x : Text, a.pieces.length + 1 ≠ a.total →
              x = { s.text with assemblies := s.text.assemblies.map fun d => if d == a then b else d } →
              (x.turnsDue = true → s.noRoom 2 = false) →
              ∃ t, exec .textSegment s = .next t ∧ s.TestsAvail t x s.now ∧ s.Receipts t r.payload (fixedDigits a.originator) x
                ∧ t.air = s.air ∧ t.meas = s.meas ∧ t.pag = s.pag ∧ t.calls = s.calls)
            ∧ (∀ (x : Text) (y : StoredText), a.pieces.length + 1 = a.total → s.StoreHolds → s.text.ReadyToStore →
              y = { b.storedAs (s.text.nextNumber 33 (s.text.counter % 65535 + 1)) with complete := true } →
              x = ({ s.text with assemblies := s.text.assemblies.erase a } : Text).stores y →
              (x.turnsDue = true → s.noRoom 2 = false) →
              ∃ t, exec .textSegment s = .next t ∧ s.TestsAvail t x s.now ∧ s.Receipts t r.payload (fixedDigits a.originator) x
                ∧ s.ServesRead t y ∧ (s.enabled .textArrived = true → t.Notes .textArrived)
                ∧ t.air = s.air ∧ t.meas = s.meas ∧ t.pag = s.pag ∧ t.calls = s.calls)))
        ∧ (s.text.assemblies.find? (·.hasKey r.payload) = none →
          ((s.text.room < u8 r.payload 21 + 24 ∨ 32 ≤ s.text.occupied) →
            ∃ t, exec .textSegment s = .next t ∧ s.RefusesSegment t r.payload (u8 r.payload 21 + 24))
          ∧ ∀ (b : Assembly) (o : List Byte), u8 r.payload 21 + 24 ≤ s.text.room → s.text.occupied < 32 →
            o = fixedDigits (digitsAt r.payload 1) →
            b = { originator := digitsAt r.payload 1, reference := u8 r.payload 12, total := u8 r.payload 13
                  first := r.arrival, stamp := (r.payload.drop 15).take 6
                  pieces := [{ index := u8 r.payload 14, body := (r.payload.drop 22).take (u8 r.payload 21) }] } →
            (∀ x : Text, s.text.assemblies.length < 6 → 1 < u8 r.payload 13 →
              x = { s.text with assemblies := s.text.assemblies ++ [b] } → (x.turnsDue = true → s.noRoom 2 = false) →
              ∃ t, exec .textSegment s = .next t ∧ s.TestsAvail t x s.now ∧ s.Receipts t r.payload o x
                ∧ t.air = s.air ∧ t.meas = s.meas ∧ t.pag = s.pag ∧ t.calls = s.calls)
            ∧ (∀ (x : Text) (y : StoredText), s.text.assemblies.length < 6 → u8 r.payload 13 = 1 → s.text.ReadyToStore →
              y = { number := s.text.nextNumber 33 (s.text.counter % 65535 + 1), originator := digitsAt r.payload 1
                    stamp := (r.payload.drop 15).take 6, total := 1, mask := 1, complete := true, seen := false
                    body := (r.payload.drop 22).take (u8 r.payload 21) } →
              x = s.text.stores y → (x.turnsDue = true → s.noRoom 2 = false) →
              ∃ t, exec .textSegment s = .next t ∧ s.TestsAvail t x s.now ∧ s.Receipts t r.payload o x
                ∧ s.ServesRead t y ∧ (s.enabled .textArrived = true → t.Notes .textArrived)
                ∧ t.air = s.air ∧ t.meas = s.meas ∧ t.pag = s.pag ∧ t.calls = s.calls)
            ∧ ∀ (a : Assembly) (as : List Assembly) (v : Text) (z : StoredText),
              s.text.assemblies = a :: as → 6 ≤ s.text.assemblies.length → s.text.ReadyToStore →
              z = a.storedAs (s.text.nextNumber 33 (s.text.counter % 65535 + 1)) →
              v = ({ s.text with assemblies := as } : Text).stores z → v.steady = true →
              (∀ x : Text, 1 < u8 r.payload 13 → x = { v with assemblies := as ++ [b] } →
                (x.turnsDue = true → s.noRoom 2 = false) →
                ∃ t, exec .textSegment s = .next t ∧ s.TestsAvail t x s.now ∧ s.Receipts t r.payload o x
                  ∧ s.ServesRead t z ∧ (s.enabled .textArrived = true → t.Notes .textArrived)
                  ∧ t.air = s.air ∧ t.meas = s.meas ∧ t.pag = s.pag ∧ t.calls = s.calls)
              ∧ ∀ (x : Text) (y : StoredText), u8 r.payload 13 = 1 →
                y = { number := v.nextNumber 33 (v.counter % 65535 + 1), originator := digitsAt r.payload 1
                      stamp := (r.payload.drop 15).take 6, total := 1, mask := 1, complete := true, seen := false
                      body := (r.payload.drop 22).take (u8 r.payload 21) } →
                x = v.stores y → (x.turnsDue = true → s.noRoom 2 = false) →
                ∃ t, exec .textSegment s = .next t ∧ s.TestsAvail t x s.now ∧ s.Receipts t r.payload o x
                  ∧ s.ServesRead t z ∧ (s.enabled .textArrived = true → t.Notes .textArrived)
                  ∧ t.air = s.air ∧ t.meas = s.meas ∧ t.pag = s.pag ∧ t.calls = s.calls))))
  ∧ (∀ (s : State) (a : Assembly) (as : List Assembly) (x : Text) (y : StoredText) (d : Tick), s.Ready →
    s.text.assemblies = a :: as → s.text.ReadyToStore → d = (s.reach (after a.first 3932160)).now →
    y = a.storedAs (s.text.nextNumber 33 (s.text.counter % 65535 + 1)) →
    x = ({ s.text with assemblies := as } : Text).stores y → (s.svc.state = .camped → x.turnsDue = false) →
    ∃ t, exec .assemblyTimeout s = .next t ∧ s.TestsAvail t x d ∧ s.ServesRead t y
      ∧ (s.enabled .textArrived = true → t.Notes .textArrived)
      ∧ (x.turnsDue = false ∨ s.connected = false → t.ho = s.ho)
      ∧ (x.turnsDue = true → s.connected = true → s.noRoom 1 = false → s.Signals t .text 59 [])
      ∧ t.air = (s.reach (after a.first 3932160)).air ∧ t.meas = s.meas ∧ t.pag = s.pag ∧ t.calls = s.calls)
  ∧ (∀ (s : State) (tk : Tick), s.Ready → s.text.retryTick = some tk → s.text.exchange = .retry →
    (s.text.availDue = false →
      exec .storeRetryTick s = .next { s.reach tk with text := { s.text with retryTick := none, exchange := .owed } })
    ∧ (s.text.availDue = true → s.svc.state = .linked →
      ∃ t, exec .storeRetryTick s = .next t
        ∧ t.text = { s.text with
            retryTick := none, exchange := .awaiting, refusedSince := false
            ackWait := startTimer (s.reach tk).now s.text.timersHeld 327680 }
        ∧ t.svc = { s.svc with needStore := true, traffic := { s.svc.traffic with close := none } }
        ∧ s.line.Sends t.line 2 59 [byte s.transceiver] ∧ t.air = (s.reach tk).air ∧ t.meas = s.meas ∧ t.ho = s.ho
        ∧ t.pag = s.pag ∧ t.calls = s.calls)
    ∧ (s.text.availDue = true → s.svc.state = .scanning →
      exec .storeRetryTick s = .next
        { s.reach tk with
          text := { s.text with retryTick := none, exchange := .due }
          svc := { s.svc with needStore := true, traffic := { s.svc.traffic with close := none } } }))
  ∧ (∀ (s : State) (r : RxRecord), s.Receives 52 r →
    (s.text.capacityOwed = false → exec .availAck s = .next s.completeRecord)
    ∧ (s.text.capacityOwed = true → s.text.refusedSince = false →
      ∃ t, exec .availAck s = .next t
        ∧ t.text = { s.text with exchange := .none, ackWait := .off, retryTick := none, capacityOwed := false }
        ∧ t.svc.needStore = (if s.text.exchange.needsStore then false else s.svc.needStore) ∧ t.svc.state = s.svc.state
        ∧ t.line.rxq = s.line.rxq.tail ∧ t.air = s.air ∧ t.meas = s.meas ∧ t.ho = s.ho ∧ t.pag = s.pag ∧ t.calls = s.calls)
    ∧ (s.text.capacityOwed = true → s.text.refusedSince = true →
      (s.text.room < 1024 ∨ 28 < s.text.occupied →
        ∃ t, exec .availAck s = .next t
          ∧ t.text = { s.text with exchange := .owed, ackWait := .off, retryTick := none, refusedSince := false }
          ∧ t.svc.needStore = (if s.text.exchange.needsStore then false else s.svc.needStore) ∧ t.svc.state = s.svc.state
          ∧ t.line.rxq = s.line.rxq.tail ∧ t.air = s.air ∧ t.meas = s.meas ∧ t.ho = s.ho ∧ t.pag = s.pag ∧ t.calls = s.calls)
      ∧ (1024 ≤ s.text.room → s.text.occupied ≤ 28 →
        (s.connected = true → s.noRoom 1 = false →
          ∃ t, exec .availAck s = .next t
            ∧ t.text = { s.text with
                exchange := .awaiting, ackWait := startTimer s.now s.text.timersHeld 327680, retryTick := none
                refusedSince := false }
            ∧ s.Signals t .text 59 [] ∧ t.svc.needStore = (if s.text.exchange.needsStore then s.svc.needStore else true)
            ∧ t.svc.state = s.svc.state ∧ t.line.rxq = s.line.rxq.tail ∧ t.air = s.air ∧ t.meas = s.meas ∧ t.pag = s.pag
            ∧ t.calls = s.calls)
        ∧ (s.connected = false → s.svc.state ≠ .camped →
          ∃ t, exec .availAck s = .next t
            ∧ t.text = { s.text with exchange := .due, ackWait := .off, retryTick := none, refusedSince := false }
            ∧ t.svc.needStore = (if s.text.exchange.needsStore then s.svc.needStore else true) ∧ t.svc.state = s.svc.state
            ∧ t.line.rxq = s.line.rxq.tail ∧ t.air = s.air ∧ t.meas = s.meas ∧ t.ho = s.ho ∧ t.pag = s.pag
            ∧ t.calls = s.calls)
        ∧ (s.svc.state = .camped → s.text.exchange.needsStore = false → s.PlanClear → s.meas.rounds = [] →
          (∀ i n, s.pag.info = some i → i.req = .offered n → n < s.line.nextSerial) →
          ∃ t id, exec .availAck s = .next t
            ∧ t.text = { s.text with exchange := .due, ackWait := .off, retryTick := none, refusedSince := false }
            ∧ t.svc.needStore = true ∧ t.svc.state = .connecting ∧ t.svc.conn = { Conn.idle with window := some id }
            ∧ t.Offers .service .access id (after s.now 99) (after (after s.now 99) 1311)
            ∧ t.line.rxq = s.line.rxq.tail ∧ t.meas = s.meas ∧ t.ho = s.ho ∧ t.calls = s.calls))))
  ∧ ∀ (s : State) (tk : Tick), s.Ready → s.text.ackWait = .running tk → s.text.exchange = .awaiting →
    ∃ t, exec .availAckWaitExpiry s = .next t
      ∧ t.text = { s.text with exchange := .retry, ackWait := .off, retryTick := some (after (s.reach tk).now 1966080) }
      ∧ t.svc.needStore = false ∧ t.svc.state = s.svc.state ∧ t.air = (s.reach tk).air ∧ t.meas = s.meas ∧ t.ho = s.ho
      ∧ t.pag = s.pag ∧ t.calls = s.calls
end

