-- ==== Sys2Proof/Laws/Kept.lean ====
section
/-! SUPPORT. What no operation of the units changes: reset, the queue of commands, the line interface but for its send path,
the SETUP record, the host linger, the tick counter and the peer claims. One lemma per operation, cited in place of its text. -/

namespace Sys2Proof.Machine

/-- What the units' work leaves as it is. -/
structure Kept where
  inReset : Bool
  pending : List Instr
  line : Line
  setup : Option Setup
  linger : Option Tick
  handling : Bool
  now : Tick
  peers : List Claim

/-- The line interface but for its send path. -/
def Line.rest (l : Line) : Line := { l with txq := [], held := [], nextSerial := 0 }

/-- What the units' work leaves as it is, of a state. -/
def State.kept (s : State) : Kept :=
  ⟨s.inReset, s.pending, s.line.rest, s.cmd.setup, s.cmd.linger, s.cmd.handling, s.air.now, s.air.peers⟩

@[simp] theorem State.kept_mk (r : Bool) (l : Line) (c : Command) (a : Airtime) (m : Measure) (v : Service) (h : Handover)
    (p : Paging) (cs : Calls) (x : Text) (g : List Job) (n : Nat) (q : List Instr) :
    (State.mk r l c a m v h p cs x g n q).kept = ⟨r, q, l.rest, c.setup, c.linger, c.handling, a.now, a.peers⟩ := rfl

@[simp] theorem State.kept_eta (s : State) :
    (⟨s.inReset, s.pending, s.line.rest, s.cmd.setup, s.cmd.linger, s.cmd.handling, s.air.now, s.air.peers⟩ : Kept)
      = s.kept := rfl

@[simp] theorem State.kept_ite (c : Prop) [Decidable c] (s t : State) :
    (if c then s else t).kept = if c then s.kept else t.kept := by split <;> rfl

@[simp] theorem Line.rest_send (l : Line) (q h : List TxEntry) (n : Nat) :
    ({ l with txq := q, held := h, nextSerial := n } : Line).rest = l.rest := rfl

/-- Two states with the same `kept` agree in each of its fields. -/
theorem State.kept_fields {s t : State} (h : t.kept = s.kept) :
    t.inReset = s.inReset ∧ t.pending = s.pending ∧ t.line.rest = s.line.rest ∧ t.cmd.setup = s.cmd.setup
      ∧ t.cmd.linger = s.cmd.linger ∧ t.cmd.handling = s.cmd.handling ∧ t.air.now = s.air.now
      ∧ t.air.peers = s.air.peers := by
  unfold State.kept at h
  injection h with h1 h2 h3 h4 h5 h6 h7 h8
  exact ⟨h1, h2, h3, h4, h5, h6, h7, h8⟩

/-- A fold of operations none of which changes these. -/
@[simp] theorem State.foldl_kept {α : Type} (f : State → α → State) (l : List α) (s : State)
    (hf : ∀ s a, (f s a).kept = s.kept) : (l.foldl f s).kept = s.kept := by
  induction l generalizing s with
  | nil => rfl
  | cons a l ih => rw [List.foldl_cons, ih, hf]

@[simp] theorem Line.takeHeld_rest (l : Line) : l.takeHeld.rest = l.rest := by
  unfold Line.takeHeld
  repeat' split
  all_goals rfl

theorem Line.refillBy_rest (n : Nat) (l : Line) : (Line.refillBy n l).rest = l.rest := by
  induction n generalizing l with
  | zero => rfl
  | succ n ih => rw [Line.refillBy, ih, Line.takeHeld_rest]

@[simp] theorem Line.refill_rest (l : Line) : l.refill.rest = l.rest := Line.refillBy_rest _ l

@[simp] theorem Line.offer_rest (l : Line) (o : UnitId) (c t : Nat) (p : List Byte) (sp : Option TxSpan) :
    (l.offer o c t p sp).rest = l.rest := by
  rw [Line.offer, Line.refill_rest]; rfl

@[simp] theorem Line.dequeue_rest (l : Line) (n : Nat) : (l.dequeue n).rest = l.rest := by
  rw [Line.dequeue, Line.refill_rest]; rfl

@[simp] theorem Line.remove_rest (l : Line) (n : Nat) : (l.remove n).rest = l.rest := by
  unfold Line.remove
  repeat' split
  · rfl
  · rfl
  · rw [Line.dequeue_rest]
  · rfl

@[simp] theorem Line.removeAll_rest (l : Line) (p : TxEntry → Bool) : (l.removeAll p).rest = l.rest := by
  rw [Line.removeAll, Line.refill_rest]; rfl

@[simp] theorem State.push_kept (s : State) (j : Job) : (s.push j).kept = s.kept := by
  simp [State.push]

@[simp] theorem State.beginSettling_kept (s : State) (edge : Bool) : (s.beginSettling edge).kept = s.kept := by
  simp [State.beginSettling]

@[simp] theorem State.internalWake_kept (s : State) : s.internalWake.kept = s.kept := by
  simp [State.internalWake]

@[simp] theorem State.offer_kept (s : State) (owner : UnitId) (cls topic : Nat) (payload : List Byte) (span : Option TxSpan) :
    (s.offer owner cls topic payload span).kept = s.kept := by
  simp [State.offer]

@[simp] theorem State.offerRadio_kept (s : State) (owner : UnitId) (cls topic : Nat) (fields : List Byte) :
    (s.offerRadio owner cls topic fields).kept = s.kept := by
  simp [State.offerRadio]

@[simp] theorem State.remove_kept (s : State) (serial : Nat) : (s.remove serial).kept = s.kept := by
  simp [State.remove]

@[simp] theorem State.removeAll_kept (s : State) (p : TxEntry → Bool) : (s.removeAll p).kept = s.kept := by
  simp [State.removeAll]

@[simp] theorem State.removeReq_kept (s : State) (r : ReqState) : (s.removeReq r).kept = s.kept := by
  cases r <;> simp [State.removeReq]

@[simp] theorem State.buildNotice_kept (s : State) : s.buildNotice.kept = s.kept := by
  unfold State.buildNotice
  repeat' split
  all_goals simp

@[simp] theorem State.raise_kept (s : State) (k : NoticeKind) (detail : List Byte) :
    (s.raise k detail).kept = s.kept := by
  simp [State.raise]

@[simp] theorem State.noticeGone_kept (s : State) (serial : Nat) (sent : Bool) :
    (s.noticeGone serial sent).kept = s.kept := by
  unfold State.noticeGone
  split <;> simp

@[simp] theorem State.leavePlan_kept (s : State) (id : Nat) : (s.leavePlan id).kept = s.kept := by
  simp [State.leavePlan]

@[simp] theorem State.modWindow_kept (s : State) (id : Nat) (f : Window → Window) :
    (s.modWindow id f).kept = s.kept := by
  simp [State.modWindow]

@[simp] theorem State.reportWindow_kept (s : State) (w : Window) (r : Report) : (s.reportWindow w r).kept = s.kept := by
  simp [State.reportWindow]

@[simp] theorem State.offerClaim_kept (s : State) (w : Window) : (s.offerClaim w).kept = s.kept := by
  simp [State.offerClaim]

@[simp] theorem State.offerWithdraw_kept (s : State) (id cls : Nat) (newEnd : Option Tick) :
    (s.offerWithdraw id cls newEnd).kept = s.kept := by
  simp [State.offerWithdraw]

@[simp] theorem State.dropClaim_kept (s : State) (w : Window) : (s.dropClaim w).kept = s.kept := by
  unfold State.dropClaim
  split <;> simp

@[simp] theorem State.retract_kept (s : State) (w : Window) : (s.retract w).kept = s.kept := by
  unfold State.retract
  split <;> simp

@[simp] theorem State.cutWindow_kept (s : State) (w : Window) (by_ : GaveWay) (stop : Tick) :
    (s.cutWindow w by_ stop).kept = s.kept := by
  simp [State.cutWindow]

@[simp] theorem State.giveWay_kept (s : State) (w : Window) (by_ : GaveWay) (stop : Tick) :
    (s.giveWay w by_ stop).kept = s.kept := by
  simp [State.giveWay]

@[simp] theorem State.allGiveWay_kept (s : State) (ws : List Window) (by_ : GaveWay) (stop : Tick) :
    (s.allGiveWay ws by_ stop).kept = s.kept := by
  simp [State.allGiveWay]

theorem State.addWindow_kept (s : State) (r : Request) (start stop : Tick) :
    (s.addWindow r start stop).1.kept = s.kept := by
  unfold State.addWindow
  simp

/-- A request for a window changes none of these. -/
@[simp] theorem State.request_kept (s : State) (r : Request) : (s.request r).1.kept = s.kept := by
  unfold State.request
  split
  · rfl
  · split
    · rfl
    · rw [State.addWindow_kept, State.allGiveWay_kept]

/-- What is done with the answer to a request changes none of these if neither of its branches does. -/
@[simp] theorem answered_kept (x : State × Placed) (f : State → Nat → Tick → Tick → State) (g : State → Bool → State)
    (hf : ∀ t id a b, (f t id a b).kept = t.kept) (hg : ∀ t b, (g t b).kept = t.kept) :
    (answered x f g).kept = x.1.kept := by
  obtain ⟨t, p⟩ := x
  cases p
  · exact hf _ _ _ _
  · exact hg _ _
  · exact hg _ _

/-- A request whose two answers change none of these changes none of them. -/
@[simp] theorem State.ask_kept (s : State) (r : Request) (w : Waiter) (f : State → Nat → Tick → Tick → State)
    (g : State → Bool → State) (hf : ∀ t id a b, (f t id a b).kept = t.kept) (hg : ∀ t b, (g t b).kept = t.kept) :
    (s.ask r w f g).kept = s.kept := by
  unfold State.ask
  rw [answered_kept, State.request_kept]
  · intro t id a b
    split
    · exact hf t id a b
    · exact State.push_kept _ _
  · exact hg

@[simp] theorem State.lapse_kept (s : State) (w : Window) (late : Bool) : (s.lapse w late).kept = s.kept := by
  simp [State.lapse]

@[simp] theorem State.claimSent_kept (s : State) (serial : Nat) (tail : Tick) :
    (s.claimSent serial tail).kept = s.kept := by
  unfold State.claimSent
  repeat' split
  all_goals simp

@[simp] theorem State.claimUnsent_kept (s : State) (serial : Nat) : (s.claimUnsent serial).kept = s.kept := by
  unfold State.claimUnsent
  split <;> simp

@[simp] theorem State.clearPlan_kept (s : State) : s.clearPlan.kept = s.kept := by
  simp [State.clearPlan]

@[simp] theorem State.displaceFor_kept (s : State) (c : Claim) (t : Tick) : (s.displaceFor c t).kept = s.kept := by
  simp [State.displaceFor]

@[simp] theorem State.dropReport_kept (s : State) : s.dropReport.kept = s.kept := by
  unfold State.dropReport
  split <;> simp

@[simp] theorem State.setEmptied_kept (s : State) : s.setEmptied.kept = s.kept := by
  simp [State.setEmptied]

@[simp] theorem State.memberLeft_kept (s : State) (key : CellKey) (why : LeaveReason) :
    (s.memberLeft key why).kept = s.kept := by
  simp [State.memberLeft]

@[simp] theorem State.rankingReset_kept (s : State) : s.rankingReset.kept = s.kept := by
  simp [State.rankingReset]

/-- A call or text unit's parcel changes none of these. -/
@[simp] theorem State.uplink_kept (s : State) (owner : UnitId) (topic : Nat) (fields : List Byte) :
    (s.uplink owner topic fields).1.kept = s.kept := by
  unfold State.uplink
  repeat' split
  all_goals simp

@[simp] theorem State.releaseUplink_kept (s : State) : s.releaseUplink.kept = s.kept := by
  simp [State.releaseUplink]

@[simp] theorem State.discardUplink_kept (s : State) : s.discardUplink.kept = s.kept := by
  simp [State.discardUplink]

@[simp] theorem State.modCell_kept (s : State) (k : CellKey) (f : Cell → Cell) : (s.modCell k f).kept = s.kept := by
  simp [State.modCell]

@[simp] theorem State.addCell_kept (s : State) (c : Cell) : (s.addCell c).kept = s.kept := by
  simp [State.addCell]

@[simp] theorem State.candidateLeft_kept (s : State) (k : CellKey) (why : LeaveReason) :
    (s.candidateLeft k why).kept = s.kept := by
  simp [State.candidateLeft]

@[simp] theorem State.dropCell_kept (s : State) (k : CellKey) (why : LeaveReason) : (s.dropCell k why).kept = s.kept := by
  simp [State.dropCell]

@[simp] theorem State.admitListed_kept (s : State) (k : CellKey) (offset : Int) :
    (s.admitListed k offset).kept = s.kept := by
  unfold State.admitListed
  repeat' split
  all_goals simp

@[simp] theorem State.useSample_kept (s : State) (k : Nat) (arrival : Tick) (p : Sample) :
    (s.useSample k arrival p).kept = s.kept := by
  unfold State.useSample
  dsimp only
  repeat' split
  all_goals simp

@[simp] theorem State.penalise_kept (s : State) (k : CellKey) : (s.penalise k).kept = s.kept := by
  simp [State.penalise]

@[simp] theorem State.bar_kept (s : State) (k : CellKey) : (s.bar k).kept = s.kept := by
  simp [State.bar]

@[simp] theorem State.modRound_kept (s : State) (id : Nat) (f : Round → Round) : (s.modRound id f).kept = s.kept := by
  simp [State.modRound]

@[simp] theorem State.countMisses_kept (s : State) (reported ks : List CellKey) :
    (s.countMisses reported ks).kept = s.kept := by
  induction ks generalizing s with
  | nil => rfl
  | cons k ks ih =>
    rw [State.countMisses, ih]
    split
    · rfl
    · repeat' split
      all_goals simp

@[simp] theorem State.endRound_kept (s : State) (r : Round) (skip : Option SkipReason) :
    (s.endRound r skip).kept = s.kept := by
  simp [State.endRound]

@[simp] theorem State.addRound_kept (s : State) (id : Nat) (start stop : Tick) :
    (s.addRound id start stop).kept = s.kept := by
  unfold State.addRound
  split <;> simp

@[simp] theorem State.buildOrder_kept (s : State) (r : Round) : (s.buildOrder r).kept = s.kept := by
  simp [State.buildOrder]

@[simp] theorem State.roundReport_kept (s : State) (id : Nat) (rep : Report) : (s.roundReport id rep).kept = s.kept := by
  unfold State.roundReport
  repeat' split
  all_goals simp

@[simp] theorem State.release_kept (s : State) (owner : UnitId) (id : Nat) : (s.release owner id).kept = s.kept := by
  unfold State.release
  split <;> simp

@[simp] theorem State.releaseOpt_kept (s : State) (owner : UnitId) (id : Option Nat) :
    (s.releaseOpt owner id).kept = s.kept := by
  cases id <;> simp [State.releaseOpt]

@[simp] theorem State.releaseAll_kept (s : State) (owner : UnitId) (p : Window → Bool) :
    (s.releaseAll owner p).kept = s.kept := by
  simp [State.releaseAll]

@[simp] theorem State.calmBegin_kept (s : State) : s.calmBegin.kept = s.kept := by
  unfold State.calmBegin
  split <;> simp

@[simp] theorem State.calmCheck_kept (s : State) : s.calmCheck.kept = s.kept := by
  unfold State.calmCheck
  split <;> simp

@[simp] theorem State.setMobility_kept (s : State) (m : Mobility) : (s.setMobility m).kept = s.kept := by
  simp [State.setMobility]

@[simp] theorem State.enterRing_kept (s : State) (source : Option CellKey) (target : CellKey) (tick : Tick) :
    (s.enterRing source target tick).kept = s.kept := by
  simp [State.enterRing]

@[simp] theorem State.missWatch_kept (s : State) (r : MissReason) : (s.missWatch r).kept = s.kept := by
  simp [State.missWatch]

@[simp] theorem State.addCycle_kept (s : State) (c : Cycle) : (s.addCycle c).kept = s.kept := by
  simp [State.addCycle]

@[simp] theorem State.setRounds_kept (s : State) (n : Nat) : (s.setRounds n).kept = s.kept := by
  simp [State.setRounds]

@[simp] theorem State.fullPlaced_kept (s : State) (id : Nat) : (s.fullPlaced id).kept = s.kept := by
  simp [State.fullPlaced]

@[simp] theorem State.cycleRoundPlaced_kept (s : State) (c : Cycle) (full : Bool) (id : Nat) (start stop : Tick) :
    (s.cycleRoundPlaced c full id start stop).kept = s.kept := by
  simp [State.cycleRoundPlaced]

@[simp] theorem State.planRound_kept (s : State) (c : Cycle) : (s.planRound c).kept = s.kept := by
  simp [State.planRound]

@[simp] theorem State.watchPlaced_kept (s : State) (c : Cycle) (id : Nat) : (s.watchPlaced c id).kept = s.kept := by
  simp [State.watchPlaced]

@[simp] theorem State.planCycle_kept (s : State) (t : Tick) : (s.planCycle t).kept = s.kept := by
  unfold State.planCycle
  split <;> simp

@[simp] theorem State.replan_kept (s : State) : s.replan.kept = s.kept := by
  simp [State.replan]

@[simp] theorem State.startSchedule_kept (s : State) (fromCamping : Bool) :
    (s.startSchedule fromCamping).kept = s.kept := by
  simp [State.startSchedule]

@[simp] theorem State.stopSchedule_kept (s : State) : s.stopSchedule.kept = s.kept := by
  simp [State.stopSchedule]

@[simp] theorem State.pagingRelease_kept (s : State) : s.pagingRelease.kept = s.kept := by
  unfold State.pagingRelease
  dsimp only
  repeat' split
  all_goals simp

@[simp] theorem State.pagingOnService_kept (s : State) (old new : ServiceState) :
    (s.pagingOnService old new).kept = s.kept := by
  simp [State.pagingOnService]

@[simp] theorem State.setAnchor_kept (s : State) (p : List Byte) (i : Nat) (arrival : Tick) :
    (s.setAnchor p i arrival).kept = s.kept := by
  simp [State.setAnchor]

@[simp] theorem State.setParams_kept (s : State) (p : Params) : (s.setParams p).kept = s.kept := by
  simp [State.setParams]

@[simp] theorem State.demoteServing_kept (s : State) : s.demoteServing.kept = s.kept := by
  simp [State.demoteServing]

@[simp] theorem State.makeServing_kept (s : State) (k : CellKey) : (s.makeServing k).kept = s.kept := by
  unfold State.makeServing
  repeat' split
  all_goals simp

@[simp] theorem State.handoverOnService_kept (s : State) (old new : ServiceState) :
    (s.handoverOnService old new).kept = s.kept := by
  simp [State.handoverOnService]

@[simp] theorem State.moveService_kept (s : State) (new : ServiceState) : (s.moveService new).kept = s.kept := by
  simp [State.moveService]

@[simp] theorem State.reportService_kept (s : State) : s.reportService.kept = s.kept := by
  unfold State.reportService
  split <;> simp

@[simp] theorem State.setService_kept (s : State) (new : ServiceState) : (s.setService new).kept = s.kept := by
  simp [State.setService]

@[simp] theorem State.modScan_kept (s : State) (f : Scan → Scan) : (s.modScan f).kept = s.kept := by
  simp [State.modScan]

@[simp] theorem State.scanPlaced_kept (s : State) (id : Nat) : (s.scanPlaced id).kept = s.kept := by
  simp [State.scanPlaced]

@[simp] theorem State.requestScan_kept (s : State) (earliest : Tick) : (s.requestScan earliest).kept = s.kept := by
  simp [State.requestScan]

@[simp] theorem State.enterScanning_kept (s : State) (loss : Bool) : (s.enterScanning loss).kept = s.kept := by
  simp [State.enterScanning]

@[simp] theorem State.doubleBackoff_kept (s : State) : s.doubleBackoff.kept = s.kept := by
  simp [State.doubleBackoff]

@[simp] theorem State.fruitless_kept (s : State) : s.fruitless.kept = s.kept := by
  simp [State.fruitless]

@[simp] theorem State.modCamp_kept (s : State) (f : Camp → Camp) : (s.modCamp f).kept = s.kept := by
  simp [State.modCamp]

@[simp] theorem State.campPlaced_kept (s : State) (id : Nat) : (s.campPlaced id).kept = s.kept := by
  simp [State.campPlaced]

@[simp] theorem State.requestCamp_kept (s : State) : s.requestCamp.kept = s.kept := by
  simp [State.requestCamp]

@[simp] theorem State.beginCamp_kept (s : State) (target : CellKey) (purpose : CampPurpose) :
    (s.beginCamp target purpose).kept = s.kept := by
  simp [State.beginCamp]

@[simp] theorem State.confirmPlaced_kept (s : State) (id : Nat) (start stop : Tick) :
    (s.confirmPlaced id start stop).kept = s.kept := by
  simp [State.confirmPlaced]

@[simp] theorem State.confirmRound_kept (s : State) : s.confirmRound.kept = s.kept := by
  simp [State.confirmRound]

@[simp] theorem State.judgeScan_kept (s : State) (mayConfirm : Bool) : (s.judgeScan mayConfirm).kept = s.kept := by
  unfold State.judgeScan
  dsimp only
  repeat' split
  all_goals simp

@[simp] theorem State.campFailed_kept (s : State) (c : Camp) (penal : Bool) : (s.campFailed c penal).kept = s.kept := by
  simp [State.campFailed]

@[simp] theorem State.campNotRun_kept (s : State) (blocked : Option (Option Nat)) :
    (s.campNotRun blocked).kept = s.kept := by
  unfold State.campNotRun
  split <;> simp

@[simp] theorem State.servingLost_kept (s : State) : s.servingLost.kept = s.kept := by
  unfold State.servingLost
  dsimp only
  repeat' split
  all_goals simp

@[simp] theorem State.reselect_kept (s : State) (rank : Option Int) : (s.reselect rank).kept = s.kept := by
  unfold State.reselect
  dsimp only
  repeat' split
  all_goals simp

@[simp] theorem State.evaluate_kept (s : State) : s.evaluate.kept = s.kept := by
  simp [State.evaluate]

@[simp] theorem State.roundDone_kept (s : State) (id : Nat) (skip : Option SkipReason) :
    (s.roundDone id skip).kept = s.kept := by
  unfold State.roundDone
  repeat' split
  all_goals simp

@[simp] theorem State.modConn_kept (s : State) (f : Conn → Conn) : (s.modConn f).kept = s.kept := by
  simp [State.modConn]

@[simp] theorem State.modTraffic_kept (s : State) (f : Traffic → Traffic) : (s.modTraffic f).kept = s.kept := by
  simp [State.modTraffic]

@[simp] theorem State.linkPlaced_kept (s : State) (id : Nat) : (s.linkPlaced id).kept = s.kept := by
  simp [State.linkPlaced]

@[simp] theorem State.requestLink_kept (s : State) : s.requestLink.kept = s.kept := by
  simp [State.requestLink]

@[simp] theorem State.openConnection_kept (s : State) : s.openConnection.kept = s.kept := by
  simp [State.openConnection]

@[simp] theorem State.raiseNeed_kept (s : State) (n : Need) : (s.raiseNeed n).kept = s.kept := by
  simp [State.raiseNeed]

@[simp] theorem State.lowerNeed_kept (s : State) (n : Need) : (s.lowerNeed n).kept = s.kept := by
  simp [State.lowerNeed]

@[simp] theorem State.lowerPage_kept (s : State) : s.lowerPage.kept = s.kept := by
  simp [State.lowerPage]

@[simp] theorem State.offerLinkReq_kept (s : State) : s.offerLinkReq.kept = s.kept := by
  simp [State.offerLinkReq]

@[simp] theorem State.requestChunk_kept (s : State) (earliest : Tick) : (s.requestChunk earliest).kept = s.kept := by
  simp [State.requestChunk]

@[simp] theorem State.tryChunk_kept (s : State) : s.tryChunk.kept = s.kept := by
  unfold State.tryChunk
  repeat' split
  all_goals simp

@[simp] theorem State.chunkActive_kept (s : State) : s.chunkActive.kept = s.kept := by
  simp [State.chunkActive]

@[simp] theorem State.absenceRuns_kept (s : State) : s.absenceRuns.kept = s.kept := by
  simp [State.absenceRuns]

@[simp] theorem State.linkUp_kept (s : State) : s.linkUp.kept = s.kept := by
  simp [State.linkUp]

@[simp] theorem State.enterSwitching_kept (s : State) : s.enterSwitching.kept = s.kept := by
  simp [State.enterSwitching]

@[simp] theorem State.resumeLinked_kept (s : State) : s.resumeLinked.kept = s.kept := by
  simp [State.resumeLinked]

@[simp] theorem State.releaseTraffic_kept (s : State) : s.releaseTraffic.kept = s.kept := by
  simp [State.releaseTraffic]

@[simp] theorem State.idleClose_kept (s : State) : s.idleClose.kept = s.kept := by
  simp [State.idleClose]

@[simp] theorem State.modCall_kept (s : State) (h : Nat) (f : Call → Call) : (s.modCall h f).kept = s.kept := by
  simp [State.modCall]

@[simp] theorem State.enterCall_kept (s : State) (h : Nat) (st : CallState) : (s.enterCall h st).kept = s.kept := by
  simp [State.enterCall]

@[simp] theorem State.raiseCallState_kept (s : State) (h : Nat) (old new : CallState) :
    (s.raiseCallState h old new).kept = s.kept := by
  simp [State.raiseCallState]

@[simp] theorem State.announce_kept (s : State) (was : List Call) : (s.announce was).kept = s.kept := by
  refine State.foldl_kept _ _ _ fun t c => ?_
  repeat' split
  all_goals simp

@[simp] theorem State.raiseCleared_kept (s : State) (c : Call) (cause : CallCause) :
    (s.raiseCleared c cause).kept = s.kept := by
  simp [State.raiseCleared]

@[simp] theorem State.addCall_kept (s : State) (c : Call) : (s.addCall c).kept = s.kept := by
  simp [State.addCall]

@[simp] theorem State.lowerCallNeed_kept (s : State) : s.lowerCallNeed.kept = s.kept := by
  simp [State.lowerCallNeed]

@[simp] theorem State.removeCall_kept (s : State) (c : Call) : (s.removeCall c).kept = s.kept := by
  simp [State.removeCall]

@[simp] theorem State.announceCleared_kept (s : State) (gone : List ClearedCall) :
    (s.announceCleared gone).kept = s.kept := by
  simp [State.announceCleared]

@[simp] theorem State.clearCall_kept (s : State) (c : Call) (cause : CallCause) :
    (s.clearCall c cause).kept = s.kept := by
  simp [State.clearCall]

@[simp] theorem State.signal_kept (s : State) (k : Signal) (c : Call) (cause : Option CallCause) :
    (s.signal k c cause).1.kept = s.kept := State.uplink_kept _ _ _ _

@[simp] theorem State.signal'_kept (s : State) (k : Signal) (c : Call) (cause : Option CallCause) :
    (s.signal' k c cause).kept = s.kept := State.uplink_kept _ _ _ _

@[simp] theorem State.releaseCall_kept (s : State) (c : Call) (cause : CallCause) :
    (s.releaseCall c cause).kept = s.kept := by
  simp [State.releaseCall]

@[simp] theorem State.leavePair_kept (s : State) (h : Nat) : (s.leavePair h).kept = s.kept := by
  simp [State.leavePair]

@[simp] theorem State.clearDeferred_kept (s : State) : s.clearDeferred.kept = s.kept := by
  simp [State.clearDeferred]

@[simp] theorem State.proceedDeferred_kept (s : State) : s.proceedDeferred.1.kept = s.kept := by
  unfold State.proceedDeferred
  split
  · simp
  · dsimp only
    split <;> simp

@[simp] theorem State.settleStep_kept (s : State) (c : Call) : (s.settleStep c).1.kept = s.kept := by
  unfold State.settleStep
  dsimp only
  repeat' split
  all_goals simp

@[simp] theorem State.sendSetups_kept (s : State) : s.sendSetups.kept = s.kept := by
  simp [State.sendSetups]

@[simp] theorem State.callRadioLost_kept (s : State) : s.callRadioLost.kept = s.kept := by
  simp [State.callRadioLost]

@[simp] theorem State.callNoAccess_kept (s : State) : s.callNoAccess.kept = s.kept := by
  simp [State.callNoAccess]

@[simp] theorem State.callHoldTimers_kept (s : State) : s.callHoldTimers.kept = s.kept := by
  simp [State.callHoldTimers]

@[simp] theorem State.callResumeTimers_kept (s : State) : s.callResumeTimers.kept = s.kept := by
  simp [State.callResumeTimers]

@[simp] theorem State.moveExchange_kept (s : State) (e : Exchange) : (s.moveExchange e).kept = s.kept := by
  simp [State.moveExchange]

@[simp] theorem State.sendAvail_kept (s : State) : s.sendAvail.kept = s.kept := by
  simp [State.sendAvail]

@[simp] theorem State.dueOrOwed_kept (s : State) : s.dueOrOwed.kept = s.kept := by
  simp [State.dueOrOwed]

@[simp] theorem State.testAvail_kept (s : State) : s.testAvail.kept = s.kept := by
  unfold State.testAvail
  split <;> simp

@[simp] theorem State.toRetry_kept (s : State) : s.toRetry.kept = s.kept := by
  simp [State.toRetry]

@[simp] theorem State.availFailed_kept (s : State) : s.availFailed.kept = s.kept := by
  simp [State.availFailed]

@[simp] theorem State.toHost_kept (s : State) (cls topic : Nat) (payload : List Byte) :
    (s.toHost cls topic payload).kept = s.kept := by
  simp [State.toHost]

@[simp] theorem State.readRecord_kept (s : State) (ref : Nat) (r : StoredText) (offset : Nat) :
    (s.readRecord ref r offset).1.kept = s.kept := rfl

@[simp] theorem State.readNext_kept (s : State) (ref : Nat) (r : StoredText) (offset : Nat) :
    (s.readNext ref r offset).1.kept = s.kept := rfl

@[simp] theorem State.servePending_kept (s : State) : s.servePending.kept = s.kept := by
  unfold State.servePending
  split <;> simp

@[simp] theorem State.testHalf_kept (s : State) : s.testHalf.kept = s.kept := by
  simp [State.testHalf]

@[simp] theorem State.rearmHalf_kept (s : State) : s.rearmHalf.kept = s.kept := by
  simp [State.rearmHalf]

@[simp] theorem State.commit_kept (s : State) (a : Assembly) : (s.commit a).kept = s.kept := by
  simp [State.commit]

@[simp] theorem State.modSending_kept (s : State) (f : OutText → OutText) : (s.modSending f).kept = s.kept := by
  simp [State.modSending]

@[simp] theorem State.sendSegment_kept (s : State) (j : Nat) (resent : Bool) :
    (s.sendSegment j resent).kept = s.kept := by
  unfold State.sendSegment
  dsimp only
  repeat' split
  all_goals simp

@[simp] theorem State.startSending_kept (s : State) : s.startSending.kept = s.kept := by
  simp [State.startSending]

@[simp] theorem State.afterOutbound_kept (s : State) : s.afterOutbound.kept = s.kept := by
  simp [State.afterOutbound]

@[simp] theorem State.dropSending_kept (s : State) : s.dropSending.kept = s.kept := by
  simp [State.dropSending]

@[simp] theorem State.raiseFailed_kept (s : State) (ref cause code : Nat) :
    (s.raiseFailed ref cause code).kept = s.kept := by
  simp [State.raiseFailed]

@[simp] theorem State.textUp_kept (s : State) : s.textUp.kept = s.kept := by
  simp [State.textUp]

@[simp] theorem State.failOutbound_kept (s : State) (p : OutText → Bool) (cause : Nat) :
    (s.failOutbound p cause).kept = s.kept := by
  simp [State.failOutbound]

@[simp] theorem State.textRadioLost_kept (s : State) : s.textRadioLost.kept = s.kept := by
  simp [State.textRadioLost]

@[simp] theorem State.textNoAccess_kept (s : State) : s.textNoAccess.kept = s.kept := by
  simp [State.textNoAccess]

@[simp] theorem State.textHoldTimers_kept (s : State) : s.textHoldTimers.kept = s.kept := by
  simp [State.textHoldTimers]

@[simp] theorem State.textResumeTimers_kept (s : State) : s.textResumeTimers.kept = s.kept := by
  simp [State.textResumeTimers]

@[simp] theorem State.resumeTimers_kept (s : State) : s.resumeTimers.kept = s.kept := by
  simp [State.resumeTimers]

@[simp] theorem State.radioLost_kept (s : State) : s.radioLost.kept = s.kept := by
  simp [State.radioLost]

@[simp] theorem State.connectionLost_kept (s : State) : s.connectionLost.kept = s.kept := by
  simp [State.connectionLost]

@[simp] theorem State.linkSucceeded_kept (s : State) : s.linkSucceeded.kept = s.kept := by
  simp [State.linkSucceeded]

@[simp] theorem State.openingRefused_kept (s : State) (c : Conn) : (s.openingRefused c).kept = s.kept := by
  simp [State.openingRefused]

@[simp] theorem State.linkFailed_kept (s : State) (blocked : Option (Option Nat)) :
    (s.linkFailed blocked).kept = s.kept := by
  simp [State.linkFailed]

@[simp] theorem State.offerReport_kept (s : State) : s.offerReport.kept = s.kept := by
  simp [State.offerReport]

@[simp] theorem State.reportDue_kept (s : State) : s.reportDue.kept = s.kept := by
  simp [State.reportDue]

@[simp] theorem State.connectedEvaluation_kept (s : State) : s.connectedEvaluation.kept = s.kept := by
  unfold State.connectedEvaluation
  split <;> simp

@[simp] theorem State.modSwitch_kept (s : State) (f : Switch → Switch) : (s.modSwitch f).kept = s.kept := by
  simp [State.modSwitch]

@[simp] theorem State.dropSwitch_kept (s : State) : s.dropSwitch.kept = s.kept := by
  simp [State.dropSwitch]

@[simp] theorem State.switchBlocked_kept (s : State) (c : Switch) : (s.switchBlocked c).kept = s.kept := by
  simp [State.switchBlocked]

@[simp] theorem State.returnFailed_kept (s : State) (c : Switch) : (s.returnFailed c).kept = s.kept := by
  simp [State.returnFailed]

@[simp] theorem State.switchPlaced_kept (s : State) (id : Nat) : (s.switchPlaced id).kept = s.kept := by
  simp [State.switchPlaced]

@[simp] theorem State.requestSwitch_kept (s : State) (c : Switch) : (s.requestSwitch c).kept = s.kept := by
  unfold State.requestSwitch
  rw [State.ask_kept]
  · simp
  · intro t b
    split <;> simp

@[simp] theorem State.switchFailed_kept (s : State) (c : Switch) (cause : SwitchCause) :
    (s.switchFailed c cause).kept = s.kept := by
  simp [State.switchFailed]

@[simp] theorem State.phaseFailed_kept (s : State) (c : Switch) : (s.phaseFailed c).kept = s.kept := by
  unfold State.phaseFailed
  split <;> simp

@[simp] theorem State.offerSwitchReq_kept (s : State) (c : Switch) (id : Nat) :
    (s.offerSwitchReq c id).kept = s.kept := by
  simp [State.offerSwitchReq]

@[simp] theorem State.switchOutcome_kept (s : State) (c : Switch) : (s.switchOutcome c).kept = s.kept := by
  unfold State.switchOutcome
  split <;> simp

@[simp] theorem State.switchReport_kept (s : State) (id : Nat) (r : Report) : (s.switchReport id r).kept = s.kept := by
  unfold State.switchReport
  repeat' split
  all_goals simp

@[simp] theorem State.switchTold_kept (s : State) (serial : Nat) (sent : Bool) :
    (s.switchTold serial sent).kept = s.kept := by
  unfold State.switchTold
  split <;> simp

@[simp] theorem State.switchSucceeded_kept (s : State) (c : Switch) (p : List Byte) (arrival : Tick) :
    (s.switchSucceeded c p arrival).kept = s.kept := by
  simp [State.switchSucceeded]

@[simp] theorem State.returnSucceeded_kept (s : State) (c : Switch) (p : List Byte) (arrival : Tick) :
    (s.returnSucceeded c p arrival).kept = s.kept := by
  simp [State.returnSucceeded]

@[simp] theorem State.abandonSwitch_kept (s : State) : s.abandonSwitch.kept = s.kept := by
  unfold State.abandonSwitch
  split <;> simp

@[simp] theorem State.scanAgain_kept (s : State) (c : Scan) : (s.scanAgain c).kept = s.kept := by
  simp [State.scanAgain]

@[simp] theorem State.scanReport_kept (s : State) (id : Nat) (r : Report) : (s.scanReport id r).kept = s.kept := by
  unfold State.scanReport
  repeat' split
  all_goals simp

@[simp] theorem State.campReport_kept (s : State) (c : Camp) (r : Report) : (s.campReport c r).kept = s.kept := by
  unfold State.campReport
  split <;> simp

@[simp] theorem State.linkReport_kept (s : State) (r : Report) : (s.linkReport r).kept = s.kept := by
  unfold State.linkReport
  split <;> simp

@[simp] theorem State.accessReport_kept (s : State) (id : Nat) (r : Report) : (s.accessReport id r).kept = s.kept := by
  unfold State.accessReport
  split <;> simp

@[simp] theorem State.trafficReport_kept (s : State) (r : Report) : (s.trafficReport r).kept = s.kept := by
  unfold State.trafficReport
  split <;> simp

@[simp] theorem State.modCycle_kept (s : State) (p : Cycle → Bool) (f : Cycle → Cycle) :
    (s.modCycle p f).kept = s.kept := by
  simp [State.modCycle]

@[simp] theorem State.dropOver_kept (s : State) : s.dropOver.kept = s.kept := by
  simp [State.dropOver]

@[simp] theorem State.watchMissed_kept (s : State) (id : Nat) (r : MissReason) : (s.watchMissed id r).kept = s.kept := by
  simp [State.watchMissed]

@[simp] theorem State.watchReport_kept (s : State) (id : Nat) (r : Report) : (s.watchReport id r).kept = s.kept := by
  unfold State.watchReport
  repeat' split
  all_goals simp

@[simp] theorem State.pagingMeasureReport_kept (s : State) (id : Nat) (r : Report) :
    (s.pagingMeasureReport id r).kept = s.kept := by
  unfold State.pagingMeasureReport
  split <;> simp

@[simp] theorem State.modInfo_kept (s : State) (f : Info → Info) : (s.modInfo f).kept = s.kept := by
  simp [State.modInfo]

@[simp] theorem State.infoPlaced_kept (s : State) (id : Nat) : (s.infoPlaced id).kept = s.kept := by
  simp [State.infoPlaced]

@[simp] theorem State.requestInfo_kept (s : State) : s.requestInfo.kept = s.kept := by
  unfold State.requestInfo
  rw [State.ask_kept] <;> intros <;> simp

@[simp] theorem State.infoReport_kept (s : State) (id : Nat) (r : Report) : (s.infoReport id r).kept = s.kept := by
  unfold State.infoReport
  repeat' split
  all_goals simp

@[simp] theorem State.unitReport_kept (s : State) (owner : UnitId) (kind : WinKind) (id : Nat) (r : Report) :
    (s.unitReport owner kind id r).kept = s.kept := by
  unfold State.unitReport
  split <;> simp

@[simp] theorem State.takeReport_kept (s : State) (owner : UnitId) (kind : WinKind) (id : Nat) (r : Report) :
    (s.takeReport owner kind id r).kept = s.kept := by
  simp [State.takeReport]

@[simp] theorem State.requestSent_kept (s : State) (topic serial : Nat) :
    (s.requestSent topic serial).kept = s.kept := by
  unfold State.requestSent
  split <;> simp

@[simp] theorem State.reportGone_kept (s : State) (serial : Nat) : (s.reportGone serial).kept = s.kept := by
  simp [State.reportGone]

@[simp] theorem State.told_kept (s : State) (sent : Bool) (e : TxEntry) (tail : Tick) :
    (s.told sent e tail).kept = s.kept := by
  unfold State.told
  split <;> simp

@[simp] theorem State.closeCheck_kept (s : State) : s.closeCheck.kept = s.kept := by
  unfold State.closeCheck
  split <;> simp

@[simp] theorem State.takePlaced_kept (s : State) (w : Waiter) (id : Nat) (start stop : Tick) :
    (s.takePlaced w id start stop).kept = s.kept := by
  unfold State.takePlaced
  repeat' split
  all_goals simp

@[simp] theorem State.runJob_kept (s : State) (j : Job) : (s.runJob j).kept = s.kept := by
  cases j <;> simp [State.runJob]

@[simp] theorem State.runAgenda_kept (n : Nat) (s : State) : (s.runAgenda n).kept = s.kept := by
  induction n generalizing s with
  | zero => rfl
  | succ n ih =>
    unfold State.runAgenda
    split
    · rfl
    · rw [ih, State.runJob_kept]; rfl

@[simp] theorem State.settle_kept (s : State) : s.settle.kept = s.kept := State.runAgenda_kept 256 s

@[simp] theorem State.refreshWake_kept (s : State) : s.refreshWake.kept = s.kept := by
  simp [State.refreshWake]

@[simp] theorem State.tellHost_kept (s : State) (before : Command) : (s.tellHost before).kept = s.kept := by
  simp [State.tellHost]

@[simp] theorem State.finish_kept (s : State) (before : Command) : (s.finish before).kept = s.kept := by
  simp [State.finish]

end Sys2Proof.Machine
end

