-- ==== Sys2Proof/Laws/Events.lean ====
section
/-! SUPPORT. What the handling of a record leaves as it is, command by command: the reset line, the queue of commands, the line
interface but for its send path, the SETUP record, the linger, the tick counter and the peer claims, but where said. -/

namespace Sys2Proof.Machine

@[simp] theorem State.prod_ite_kept {α : Type} (c : Prop) [Decidable c] (x y : State × α) :
    (if c then x else y).1.kept = if c then x.1.kept else y.1.kept := by split <;> rfl

@[simp] theorem State.toHostAll_kept (s : State) (ps : List HostParcel) : (s.toHostAll ps).kept = s.kept := by
  simp [State.toHostAll]

@[simp] theorem State.refuse_kept (s : State) (o : Answered) : (s.refuse o).1.kept = s.kept := rfl

@[simp] theorem State.done_kept (s : State) (d : List Byte) : (s.done d).1.kept = s.kept := rfl

theorem State.completeRecord_kept (s : State) :
    s.completeRecord.kept = { s.kept with line := { s.kept.line with rxq := s.kept.line.rxq.tail } } := rfl

/-- A parcel from the transceiver or a peer whose handling changes the peer claims alone of these: nothing is changed, or the
oldest record is completed (R30). -/
theorem State.radioParcel_kept (topic : Nat) (h : State → RxRecord → State) (s : State)
    (hh : ∀ r, (h s r).kept = { s.kept with peers := (h s r).kept.peers }) :
    (State.radioParcel topic h s).kept = s.kept
      ∨ (State.radioParcel topic h s).kept
        = { s.kept with
            line := { s.kept.line with rxq := s.kept.line.rxq.tail }
            peers := (State.radioParcel topic h s).kept.peers } := by
  unfold State.radioParcel
  split
  · exact Or.inl rfl
  · split
    · exact Or.inl rfl
    · refine Or.inr ?_
      dsimp only
      rw [State.completeRecord_kept, State.settle_kept]
      split
      · rfl
      · rw [hh]

/-- A claim overlaps no window that ends on the tick it arrives, for it starts no earlier (R58, R70): R66 and R71 speak of
different claims. -/
theorem claimOf_overlap_arrival (r : RxRecord) (start : Tick) :
    overlap (claimOf r).start (claimOf r).stop start r.arrival = false := by
  have h1 := (r.payload.getD 3 0).isLt
  have h2 := (r.payload.getD 4 0).isLt
  have h : r.arrival - (claimOf r).start = -BitVec.ofNat 32 (u16 r.payload 3) := by
    simp only [claimOf, after]; bv_omega
  simp only [overlap, earlier, later, h, Bool.and_eq_false_imp, Bool.and_eq_true, decide_eq_true_eq, u16, u8,
    BitVec.toNat_neg, BitVec.toNat_ofNat]
  omega

/-- A CLAIM taken changes the peer claims alone of these (R70). -/
theorem State.takeClaim_kept (s : State) (r : RxRecord) :
    (s.takeClaim r).kept = { s.kept with peers := (s.takeClaim r).kept.peers } := by
  unfold State.takeClaim
  split
  · rfl
  · split
    · rfl
    · rw [State.displaceFor_kept]; rfl

/-- A WITHDRAW taken changes the peer claims alone of these (R72). -/
theorem State.takeWithdraw_kept (s : State) (r : RxRecord) :
    (s.takeWithdraw r).kept = { s.kept with peers := (s.takeWithdraw r).kept.peers } := rfl

@[simp] theorem State.startWindow_kept (s : State) (w : Window) : (s.startWindow w).kept = s.kept := rfl

/-- A window that becomes ACTIVE changes the plan alone (R66). -/
@[simp] theorem State.startWindow_frame (s : State) (w : Window) :
    (s.startWindow w).air.plan = s.air.plan.map (fun v => if v == w then { v with state := .active } else v)
      ∧ (s.startWindow w).line = s.line ∧ (s.startWindow w).cmd = s.cmd ∧ (s.startWindow w).meas = s.meas
      ∧ (s.startWindow w).svc = s.svc ∧ (s.startWindow w).ho = s.ho ∧ (s.startWindow w).pag = s.pag
      ∧ (s.startWindow w).calls = s.calls ∧ (s.startWindow w).text = s.text ∧ (s.startWindow w).agenda = s.agenda := by
  simp [State.startWindow]

@[simp] theorem State.standDeadline_kept (s : State) (w : Window) : (s.standDeadline w).kept = s.kept := by
  unfold State.standDeadline
  split <;> simp

@[simp] theorem State.applyCellParams_kept (s : State) (p : Params) : (s.applyCellParams p).kept = s.kept := by
  simp [State.applyCellParams]

@[simp] theorem State.takeCellParams_kept (s : State) (r : RxRecord) : (s.takeCellParams r).kept = s.kept := by
  simp [State.takeCellParams]

@[simp] theorem State.listEntry_kept (s : State) (e : CellKey × Int) : (s.listEntry e).kept = s.kept := by
  simp [State.listEntry]

@[simp] theorem State.takeCellList_kept (s : State) (r : RxRecord) : (s.takeCellList r).kept = s.kept := by
  simp [State.takeCellList]

@[simp] theorem State.useSamples_kept (s : State) (k : Nat) (arrival : Tick) (ps : List Sample) :
    (s.useSamples k arrival ps).kept = s.kept := by
  simp [State.useSamples]

@[simp] theorem State.connectedReport_kept (s : State) (r : RxRecord) : (s.connectedReport r).kept = s.kept := by
  simp [State.connectedReport]

@[simp] theorem State.openRoundReport_kept (s : State) (q : Round) (r : RxRecord) :
    (s.openRoundReport q r).kept = s.kept := by
  unfold State.openRoundReport
  dsimp only
  repeat' split
  all_goals simp

@[simp] theorem State.takeMeasureReport_kept (s : State) (r : RxRecord) : (s.takeMeasureReport r).kept = s.kept := by
  unfold State.takeMeasureReport
  repeat' split
  all_goals simp

@[simp] theorem State.scanEntry_kept (s : State) (k : Nat) (arrival : Tick) (e : Sample × Bool) :
    (s.scanEntry k arrival e).kept = s.kept := by
  simp [State.scanEntry]

@[simp] theorem State.scanJudged_kept (s : State) (id : Nat) (keys : List CellKey) :
    (s.scanJudged id keys).kept = s.kept := by
  unfold State.scanJudged
  split <;> simp

@[simp] theorem State.takeScanResult_kept (s : State) (r : RxRecord) : (s.takeScanResult r).kept = s.kept := by
  simp [State.takeScanResult]

@[simp] theorem State.campSucceeded_kept (s : State) (c : Camp) (p : List Byte) (arrival : Tick) :
    (s.campSucceeded c p arrival).kept = s.kept := by
  unfold State.campSucceeded
  dsimp only
  repeat' split
  all_goals simp

@[simp] theorem State.takeCampResult_kept (s : State) (r : RxRecord) : (s.takeCampResult r).kept = s.kept := by
  unfold State.takeCampResult
  split <;> simp

@[simp] theorem State.takeLinkResult_kept (s : State) (r : RxRecord) : (s.takeLinkResult r).kept = s.kept := by
  simp [State.takeLinkResult]

@[simp] theorem State.takeLinkDropped_kept (s : State) (r : RxRecord) : (s.takeLinkDropped r).kept = s.kept := by
  unfold State.takeLinkDropped
  split <;> simp

@[simp] theorem State.gapCheck_kept (s : State) : s.gapCheck.kept = s.kept := by
  unfold State.gapCheck
  dsimp only
  repeat' split
  all_goals simp

@[simp] theorem State.beginSwitch_kept (s : State) (target old : CellKey) (n : Nat) :
    (s.beginSwitch target old n).kept = s.kept := by
  simp [State.beginSwitch]

@[simp] theorem State.takeHandoverOrder_kept (s : State) (r : RxRecord) : (s.takeHandoverOrder r).kept = s.kept := by
  unfold State.takeHandoverOrder
  split <;> simp

@[simp] theorem State.switchDecided_kept (s : State) (c : Switch) (r : RxRecord) :
    (s.switchDecided c r).kept = s.kept := by
  unfold State.switchDecided
  split <;> simp

@[simp] theorem State.takeSwitchResult_kept (s : State) (r : RxRecord) : (s.takeSwitchResult r).kept = s.kept := by
  unfold State.takeSwitchResult
  split <;> simp

@[simp] theorem State.frameEnd_kept (s : State) (c : Cycle) : (s.frameEnd c).kept = s.kept := by
  simp [State.frameEnd]

@[simp] theorem State.matchPages_kept (s : State) (es : List (Nat × Nat)) : (s.matchPages es).kept = s.kept := by
  unfold State.matchPages
  repeat' split
  all_goals simp

@[simp] theorem State.infoChange_kept (s : State) (p : List Byte) : (s.infoChange p).kept = s.kept := by
  simp [State.infoChange]

@[simp] theorem State.watchAnswered_kept (s : State) (id : Nat) : (s.watchAnswered id).kept = s.kept := by
  simp [State.watchAnswered]

@[simp] theorem State.takePageResult_kept (s : State) (r : RxRecord) : (s.takePageResult r).kept = s.kept := by
  simp [State.takePageResult]

theorem State.withHandle_kept (s : State) (r : RxRecord) (f : Call → State × Reply) (hf : ∀ c, (f c).1.kept = s.kept) :
    (s.withHandle r f).1.kept = s.kept := by
  unfold State.withHandle
  dsimp only
  split
  · rfl
  · split
    · rfl
    · exact hf _

@[simp] theorem State.dial_kept (s : State) (r : RxRecord) : (s.dial r).1.kept = s.kept := by
  simp [State.dial]

@[simp] theorem State.connectCall_kept (s : State) (c : Call) : (s.connectCall c).kept = s.kept := by
  simp [State.connectCall]

@[simp] theorem State.endCall_kept (s : State) (c : Call) : (s.endCall c).kept = s.kept := by
  simp [State.endCall]

@[simp] theorem State.answerHold_kept (s : State) (c fg : Call) : (s.answerHold c fg).1.kept = s.kept := by
  simp [State.answerHold]

@[simp] theorem State.answerRelease_kept (s : State) (c fg : Call) : (s.answerRelease c fg).1.kept = s.kept := by
  simp [State.answerRelease]

@[simp] theorem State.answerPlain_kept (s : State) (c : Call) : (s.answerPlain c).1.kept = s.kept := by
  simp [State.answerPlain]

@[simp] theorem State.answer_kept (s : State) (r : RxRecord) : (s.answer r).1.kept = s.kept := by
  unfold State.answer
  try (split; · rfl)
  refine State.withHandle_kept s r _ fun c => ?_
  repeat' split
  all_goals simp

@[simp] theorem State.hangup_kept (s : State) (r : RxRecord) : (s.hangup r).1.kept = s.kept := by
  unfold State.hangup
  try (split; · rfl)
  refine State.withHandle_kept s r _ fun c => ?_
  repeat' split
  all_goals simp

@[simp] theorem State.holdCall_kept (s : State) (r : RxRecord) : (s.holdCall r).1.kept = s.kept := by
  unfold State.holdCall
  try (split; · rfl)
  refine State.withHandle_kept s r _ fun c => ?_
  repeat' split
  all_goals simp

@[simp] theorem State.resumeCall_kept (s : State) (r : RxRecord) : (s.resumeCall r).1.kept = s.kept := by
  unfold State.resumeCall
  try (split; · rfl)
  refine State.withHandle_kept s r _ fun c => ?_
  repeat' split
  all_goals simp

@[simp] theorem State.swapCalls_kept (s : State) (c h : Call) : (s.swapCalls c h).kept = s.kept := by
  simp [State.swapCalls]

@[simp] theorem State.swap_kept (s : State) (r : RxRecord) : (s.swap r).1.kept = s.kept := by
  unfold State.swap
  repeat' split
  all_goals simp

@[simp] theorem State.takeOffer_kept (s : State) (p : List Byte) : (s.takeOffer p).kept = s.kept := by
  simp [State.takeOffer]

@[simp] theorem State.changing_kept (s : State) (f : State → State) (hf : ∀ t, (f t).kept = t.kept) :
    (s.changing f).kept = s.kept := by
  unfold State.changing
  simp [hf]

@[simp] theorem State.announceWith_kept (s : State) (was : List Call) (also : Option Nat) :
    (s.announceWith was also).kept = s.kept := by
  refine State.foldl_kept _ _ _ fun t c => ?_
  repeat' split
  all_goals simp

@[simp] theorem State.takeReleased_kept (s : State) (c : Call) (code : Nat) : (s.takeReleased c code).kept = s.kept := by
  simp [State.takeReleased]

@[simp] theorem State.holdAcked_kept (s : State) (c : Call) : (s.holdAcked c).kept = s.kept := by
  simp [State.holdAcked]

@[simp] theorem State.holdRejected_kept (s : State) (c : Call) : (s.holdRejected c).kept = s.kept := by
  simp [State.holdRejected]

@[simp] theorem State.settlePair_kept (s : State) (p : SwapPair) (first second : CallState) :
    (s.settlePair p first second).kept = s.kept := by
  unfold State.settlePair
  repeat' split
  all_goals simp

@[simp] theorem State.takeSwapEvent_kept (s : State) (ack out : Bool) (tx : Nat) :
    (s.takeSwapEvent ack out tx).kept = s.kept := by
  unfold State.takeSwapEvent
  split <;> simp

@[simp] theorem State.takeCallKind_kept (s : State) (kind code : Nat) (c : Call) :
    (s.takeCallKind kind code c).kept = s.kept := by
  unfold State.takeCallKind
  split <;> simp

@[simp] theorem State.takeCallEvent_kept (s : State) (r : RxRecord) : (s.takeCallEvent r).kept = s.kept := by
  unfold State.takeCallEvent
  dsimp only
  repeat' split
  all_goals simp

@[simp] theorem State.holdExpired_kept (s : State) (c : Call) : (s.holdExpired c).kept = s.kept := by
  refine State.changing_kept s _ fun t => ?_
  repeat' split
  all_goals simp

@[simp] theorem State.resumeExpired_kept (s : State) (c : Call) : (s.resumeExpired c).kept = s.kept := by
  refine State.changing_kept s _ fun t => ?_
  repeat' split
  all_goals simp

@[simp] theorem State.callExpired_kept (s : State) (c : Call) : (s.callExpired c).kept = s.kept := by
  unfold State.callExpired
  split <;> simp

@[simp] theorem State.cancelRead_kept (s : State) : s.cancelRead.1.kept = s.kept := by
  unfold State.cancelRead
  split <;> rfl

theorem State.acceptText_kept (s : State) (k : Bool) (f : State → State × Reply) (hf : ∀ t, (f t).1.kept = t.kept) :
    (s.acceptText k f).1.kept = s.kept := by
  unfold State.acceptText
  dsimp only
  rw [hf, State.kept_ite, State.cancelRead_kept]
  split
  · rfl
  · exact State.cancelRead_kept s

@[simp] theorem State.readNumber_kept (s : State) (r : RxRecord) (t : StoredText) : (s.readNumber r t).1.kept = s.kept := by
  unfold State.readNumber
  exact State.acceptText_kept _ _ _ fun _ => by simp [State.done]

@[simp] theorem State.readTextNext_kept (s : State) (r : RxRecord) : (s.readTextNext r).1.kept = s.kept := by
  unfold State.readTextNext
  repeat' split
  all_goals first
    | rfl
    | exact State.acceptText_kept _ _ _ fun _ => by simp [State.done]

@[simp] theorem State.readText_kept (s : State) (r : RxRecord) : (s.readText r).1.kept = s.kept := by
  unfold State.readText
  repeat' split
  all_goals simp

@[simp] theorem State.readMore_kept (s : State) (r : RxRecord) : (s.readMore r).1.kept = s.kept := by
  unfold State.readMore
  repeat' split
  all_goals first
    | rfl
    | exact State.acceptText_kept _ _ _ fun _ => by simp [State.done]

@[simp] theorem State.releaseOldest_kept (s : State) (t : StoredText) : (s.releaseOldest t).kept = s.kept := by
  simp [State.releaseOldest]

@[simp] theorem State.releaseText_kept (s : State) (r : RxRecord) : (s.releaseText r).1.kept = s.kept := by
  unfold State.releaseText
  repeat' split
  all_goals first
    | rfl
    | exact State.acceptText_kept _ _ _ fun _ => by simp [State.done]

@[simp] theorem State.rewind_kept (s : State) (r : RxRecord) : (s.rewind r).1.kept = s.kept := by
  unfold State.rewind
  repeat' split
  all_goals first
    | rfl
    | exact State.acceptText_kept _ _ _ fun _ => by simp [State.done]

@[simp] theorem State.modComposing_kept (s : State) (f : OutText → OutText) : (s.modComposing f).kept = s.kept := by
  simp [State.modComposing]

@[simp] theorem State.dropComposing_kept (s : State) : s.dropComposing.kept = s.kept := by
  simp [State.dropComposing]

@[simp] theorem State.sendBegin_kept (s : State) (r : RxRecord) : (s.sendBegin r).1.kept = s.kept := by
  unfold State.sendBegin
  repeat' split
  all_goals first
    | rfl
    | exact State.acceptText_kept _ _ _ fun _ => by simp [State.done]

@[simp] theorem State.sendPiece_kept (s : State) (r : RxRecord) : (s.sendPiece r).1.kept = s.kept := by
  unfold State.sendPiece
  repeat' split
  all_goals first
    | rfl
    | exact State.acceptText_kept _ _ _ fun _ => by simp [State.done]

@[simp] theorem State.queueText_kept (s : State) (o : OutText) : (s.queueText o).kept = s.kept := by
  simp [State.queueText]

@[simp] theorem State.sendGo_kept (s : State) (r : RxRecord) : (s.sendGo r).1.kept = s.kept := by
  unfold State.sendGo
  split
  · rfl
  · exact State.acceptText_kept _ _ _ fun _ => by simp [State.done]

@[simp] theorem State.sendCancel_kept (s : State) (r : RxRecord) : (s.sendCancel r).1.kept = s.kept := by
  unfold State.sendCancel
  split
  · rfl
  · exact State.acceptText_kept _ _ _ fun _ => by simp [State.done]

@[simp] theorem State.receipt_kept (s : State) (originator : List Byte) (p : List Byte) (o : Receipt) :
    (s.receipt originator p o).kept = s.kept := by
  simp [State.receipt]

@[simp] theorem State.owe_kept (s : State) : s.owe.kept = s.kept := by
  unfold State.owe
  dsimp only
  repeat' split
  all_goals simp

@[simp] theorem State.refuseSegment_kept (s : State) (p : List Byte) (need : Nat) :
    (s.refuseSegment p need).kept = s.kept := by
  simp [State.refuseSegment]

@[simp] theorem State.closeIfComplete_kept (s : State) (a : Assembly) : (s.closeIfComplete a).kept = s.kept := by
  simp [State.closeIfComplete]

@[simp] theorem State.addPiece_kept (s : State) (a : Assembly) (p : List Byte) : (s.addPiece a p).kept = s.kept := by
  simp [State.addPiece]

@[simp] theorem State.openAssembly_kept (s : State) (p : List Byte) (arrival : Tick) :
    (s.openAssembly p arrival).kept = s.kept := by
  unfold State.openAssembly
  split <;> simp

@[simp] theorem State.takePiece_kept (s : State) (p : List Byte) (arrival : Tick) :
    (s.takePiece p arrival).kept = s.kept := by
  unfold State.takePiece
  split <;> simp

@[simp] theorem State.takeSegment_kept (s : State) (r : RxRecord) : (s.takeSegment r).kept = s.kept := by
  simp [State.takeSegment]

@[simp] theorem State.takeAvailAck_kept (s : State) (r : RxRecord) : (s.takeAvailAck r).kept = s.kept := by
  simp [State.takeAvailAck]

@[simp] theorem State.textSent_kept (s : State) (o : OutText) : (s.textSent o).kept = s.kept := by
  simp [State.textSent]

@[simp] theorem State.textFailed_kept (s : State) (o : OutText) (cause code : Nat) :
    (s.textFailed o cause code).kept = s.kept := by
  simp [State.textFailed]

@[simp] theorem State.segmentAcked_kept (s : State) (o : OutText) (p : List Byte) :
    (s.segmentAcked o p).kept = s.kept := by
  simp [State.segmentAcked]

@[simp] theorem State.takeTextAck_kept (s : State) (r : RxRecord) : (s.takeTextAck r).kept = s.kept := by
  unfold State.takeTextAck
  split <;> simp

@[simp] theorem State.waitExpired_kept (s : State) (o : OutText) : (s.waitExpired o).kept = s.kept := by
  simp [State.waitExpired]

/-- An accepted SETUP changes the SETUP record alone of these (R34). -/
theorem State.acceptSetup_kept (s : State) (c : Setup) : (s.acceptSetup c).kept = { s.kept with setup := some c } := by
  unfold State.acceptSetup
  rw [State.enterScanning_kept]; rfl

/-- SETUP changes the SETUP record alone of these (R34). -/
theorem State.setup_kept (s : State) (r : RxRecord) :
    (s.setup r).1.kept = { s.kept with setup := (s.setup r).1.kept.setup } := by
  unfold State.setup
  dsimp only
  split
  · rfl
  · split
    · rfl
    · have h := s.acceptSetup_kept (setupOf r.payload)
      have e : ((s.acceptSetup (setupOf r.payload)).done [byte (setupOf r.payload).settle]).1
          = s.acceptSetup (setupOf r.payload) := rfl
      rw [e, h]

@[simp] theorem State.status_kept (s : State) (r : RxRecord) : (s.status r).1.kept = s.kept := by
  simp [State.status]

@[simp] theorem State.voidNotice_kept (s : State) : s.voidNotice.kept = s.kept := by
  simp [State.voidNotice]

@[simp] theorem State.clearSendPath_kept (s : State) : s.clearSendPath.kept = s.kept := by
  simp [State.clearSendPath]

@[simp] theorem State.linkClose_kept (s : State) : s.linkClose.kept = s.kept := by
  simp [State.linkClose]

@[simp] theorem State.restartExchange_kept (s : State) : s.restartExchange.kept = s.kept := by
  simp [State.restartExchange]

@[simp] theorem State.restartUnits_kept (s : State) : s.restartUnits.kept = s.kept := by
  simp [State.restartUnits]

@[simp] theorem State.tellRestart_kept (s : State) (o : Option ServiceState) : (s.tellRestart o).kept = s.kept := by
  cases o <;> simp [State.tellRestart]

@[simp] theorem State.restart_kept (s : State) (r : RxRecord) : (s.restart r).1.kept = s.kept := by
  simp [State.restart]

@[simp] theorem State.query_kept (s : State) (r : RxRecord) (topic : Nat) (bodies : List (List Byte)) :
    (s.query r topic bodies).1.kept = s.kept := by
  simp [State.query]

@[simp] theorem State.shelveService_kept (s : State) : s.shelveService.kept = s.kept := by
  unfold State.shelveService
  dsimp only
  split <;> simp

@[simp] theorem State.shelvePaging_kept (s : State) : s.shelvePaging.kept = s.kept := by
  simp [State.shelvePaging]

@[simp] theorem State.shelvePlan_kept (s : State) : s.shelvePlan.kept = s.kept := by
  simp [State.shelvePlan]

@[simp] theorem State.shelveText_kept (s : State) : s.shelveText.kept = s.kept := by
  simp [State.shelveText]

@[simp] theorem State.shelveCalls_kept (s : State) : s.shelveCalls.kept = s.kept := by
  simp [State.shelveCalls]

@[simp] theorem State.shelve_kept (s : State) (r : RxRecord) : (s.shelve r).1.kept = s.kept := by
  simp [State.shelve]

@[simp] theorem State.unshelve_kept (s : State) (r : RxRecord) : (s.unshelve r).1.kept = s.kept := by
  simp [State.unshelve]

@[simp] theorem State.setWakeHold_kept (s : State) (r : RxRecord) : (s.setWakeHold r).1.kept = s.kept := by
  simp [State.setWakeHold]

end Sys2Proof.Machine
end

