-- ==== Sys2Proof/Laws/Frames.lean ====
section
/-! SUPPORT. Which parts of the state each operation of the units leaves as they are: one lemma per operation, for the units it
does not touch, cited in place of its text. -/

namespace Sys2Proof.Machine

/-- The paging and power unit but for its power state, settle end and wake tick, which an internal wake may set (R155). -/
def Paging.sched (p : Paging) : Paging := { p with power := .awake, settleEnd := none, wake := none }

@[simp] theorem Paging.sched_wake (p : Paging) (w : Power) (e k : Option Tick) :
    ({ p with power := w, settleEnd := e, wake := k } : Paging).sched = p.sched := rfl

/-- The power state is AWAKE (R151). No work of a unit but RESTART and the entries into DOZE and SHELVED changes it. -/
def Paging.isAwake (p : Paging) : Bool := p.power == .awake

@[simp] theorem Paging.isAwake_mk (a : Bool) (b : List Cycle) (c : Nat) (d : List Nat) (e : Nat) (f : Option MissReason)
    (g : Option Info) (w : Power) (h i : Option Tick) (j : Bool) (k : Option Tick) (l : Bool) :
    (Paging.mk a b c d e f g w h i j k l).isAwake = (w == .awake) := rfl

@[simp] theorem Paging.isAwake_fold (p : Paging) : (p.power == .awake) = p.isAwake := rfl

@[simp] theorem State.ite_line (c : Prop) [Decidable c] (s t : State) :
    (if c then s else t).line = if c then s.line else t.line := by split <;> rfl

@[simp] theorem State.foldl_line {α : Type} (f : State → α → State) (l : List α) (s : State)
    (hf : ∀ s a, (f s a).line = s.line) : (l.foldl f s).line = s.line := by
  induction l generalizing s with
  | nil => rfl
  | cons a l ih => rw [List.foldl_cons, ih, hf]

@[simp] theorem answered_line (x : State × Placed) (f : State → Nat → Tick → Tick → State) (g : State → Bool → State)
    (hf : ∀ t id a b, (f t id a b).line = t.line) (hg : ∀ t b, (g t b).line = t.line) :
    (answered x f g).line = x.1.line := by
  obtain ⟨t, _ | _ | _⟩ := x
  · exact hf _ _ _ _
  · exact hg _ _
  · exact hg _ _

@[simp] theorem State.ite_cmd (c : Prop) [Decidable c] (s t : State) :
    (if c then s else t).cmd = if c then s.cmd else t.cmd := by split <;> rfl

@[simp] theorem State.foldl_cmd {α : Type} (f : State → α → State) (l : List α) (s : State)
    (hf : ∀ s a, (f s a).cmd = s.cmd) : (l.foldl f s).cmd = s.cmd := by
  induction l generalizing s with
  | nil => rfl
  | cons a l ih => rw [List.foldl_cons, ih, hf]

@[simp] theorem answered_cmd (x : State × Placed) (f : State → Nat → Tick → Tick → State) (g : State → Bool → State)
    (hf : ∀ t id a b, (f t id a b).cmd = t.cmd) (hg : ∀ t b, (g t b).cmd = t.cmd) :
    (answered x f g).cmd = x.1.cmd := by
  obtain ⟨t, _ | _ | _⟩ := x
  · exact hf _ _ _ _
  · exact hg _ _
  · exact hg _ _

@[simp] theorem State.ite_air (c : Prop) [Decidable c] (s t : State) :
    (if c then s else t).air = if c then s.air else t.air := by split <;> rfl

@[simp] theorem State.foldl_air {α : Type} (f : State → α → State) (l : List α) (s : State)
    (hf : ∀ s a, (f s a).air = s.air) : (l.foldl f s).air = s.air := by
  induction l generalizing s with
  | nil => rfl
  | cons a l ih => rw [List.foldl_cons, ih, hf]

@[simp] theorem answered_air (x : State × Placed) (f : State → Nat → Tick → Tick → State) (g : State → Bool → State)
    (hf : ∀ t id a b, (f t id a b).air = t.air) (hg : ∀ t b, (g t b).air = t.air) :
    (answered x f g).air = x.1.air := by
  obtain ⟨t, _ | _ | _⟩ := x
  · exact hf _ _ _ _
  · exact hg _ _
  · exact hg _ _

@[simp] theorem State.ite_anchor (c : Prop) [Decidable c] (s t : State) :
    (if c then s else t).air.anchor = if c then s.air.anchor else t.air.anchor := by split <;> rfl

@[simp] theorem State.foldl_anchor {α : Type} (f : State → α → State) (l : List α) (s : State)
    (hf : ∀ s a, (f s a).air.anchor = s.air.anchor) : (l.foldl f s).air.anchor = s.air.anchor := by
  induction l generalizing s with
  | nil => rfl
  | cons a l ih => rw [List.foldl_cons, ih, hf]

@[simp] theorem answered_anchor (x : State × Placed) (f : State → Nat → Tick → Tick → State) (g : State → Bool → State)
    (hf : ∀ t id a b, (f t id a b).air.anchor = t.air.anchor) (hg : ∀ t b, (g t b).air.anchor = t.air.anchor) :
    (answered x f g).air.anchor = x.1.air.anchor := by
  obtain ⟨t, _ | _ | _⟩ := x
  · exact hf _ _ _ _
  · exact hg _ _
  · exact hg _ _

@[simp] theorem State.ite_plan (c : Prop) [Decidable c] (s t : State) :
    (if c then s else t).air.plan = if c then s.air.plan else t.air.plan := by split <;> rfl

@[simp] theorem State.foldl_plan {α : Type} (f : State → α → State) (l : List α) (s : State)
    (hf : ∀ s a, (f s a).air.plan = s.air.plan) : (l.foldl f s).air.plan = s.air.plan := by
  induction l generalizing s with
  | nil => rfl
  | cons a l ih => rw [List.foldl_cons, ih, hf]

@[simp] theorem answered_plan (x : State × Placed) (f : State → Nat → Tick → Tick → State) (g : State → Bool → State)
    (hf : ∀ t id a b, (f t id a b).air.plan = t.air.plan) (hg : ∀ t b, (g t b).air.plan = t.air.plan) :
    (answered x f g).air.plan = x.1.air.plan := by
  obtain ⟨t, _ | _ | _⟩ := x
  · exact hf _ _ _ _
  · exact hg _ _
  · exact hg _ _

@[simp] theorem State.ite_meas (c : Prop) [Decidable c] (s t : State) :
    (if c then s else t).meas = if c then s.meas else t.meas := by split <;> rfl

@[simp] theorem State.foldl_meas {α : Type} (f : State → α → State) (l : List α) (s : State)
    (hf : ∀ s a, (f s a).meas = s.meas) : (l.foldl f s).meas = s.meas := by
  induction l generalizing s with
  | nil => rfl
  | cons a l ih => rw [List.foldl_cons, ih, hf]

@[simp] theorem answered_meas (x : State × Placed) (f : State → Nat → Tick → Tick → State) (g : State → Bool → State)
    (hf : ∀ t id a b, (f t id a b).meas = t.meas) (hg : ∀ t b, (g t b).meas = t.meas) :
    (answered x f g).meas = x.1.meas := by
  obtain ⟨t, _ | _ | _⟩ := x
  · exact hf _ _ _ _
  · exact hg _ _
  · exact hg _ _

@[simp] theorem State.ite_params (c : Prop) [Decidable c] (s t : State) :
    (if c then s else t).meas.params = if c then s.meas.params else t.meas.params := by split <;> rfl

@[simp] theorem State.foldl_params {α : Type} (f : State → α → State) (l : List α) (s : State)
    (hf : ∀ s a, (f s a).meas.params = s.meas.params) : (l.foldl f s).meas.params = s.meas.params := by
  induction l generalizing s with
  | nil => rfl
  | cons a l ih => rw [List.foldl_cons, ih, hf]

@[simp] theorem answered_params (x : State × Placed) (f : State → Nat → Tick → Tick → State) (g : State → Bool → State)
    (hf : ∀ t id a b, (f t id a b).meas.params = t.meas.params) (hg : ∀ t b, (g t b).meas.params = t.meas.params) :
    (answered x f g).meas.params = x.1.meas.params := by
  obtain ⟨t, _ | _ | _⟩ := x
  · exact hf _ _ _ _
  · exact hg _ _
  · exact hg _ _

@[simp] theorem State.ite_svc (c : Prop) [Decidable c] (s t : State) :
    (if c then s else t).svc = if c then s.svc else t.svc := by split <;> rfl

@[simp] theorem State.foldl_svc {α : Type} (f : State → α → State) (l : List α) (s : State)
    (hf : ∀ s a, (f s a).svc = s.svc) : (l.foldl f s).svc = s.svc := by
  induction l generalizing s with
  | nil => rfl
  | cons a l ih => rw [List.foldl_cons, ih, hf]

@[simp] theorem answered_svc (x : State × Placed) (f : State → Nat → Tick → Tick → State) (g : State → Bool → State)
    (hf : ∀ t id a b, (f t id a b).svc = t.svc) (hg : ∀ t b, (g t b).svc = t.svc) :
    (answered x f g).svc = x.1.svc := by
  obtain ⟨t, _ | _ | _⟩ := x
  · exact hf _ _ _ _
  · exact hg _ _
  · exact hg _ _

@[simp] theorem State.ite_sstate (c : Prop) [Decidable c] (s t : State) :
    (if c then s else t).svc.state = if c then s.svc.state else t.svc.state := by split <;> rfl

@[simp] theorem State.foldl_sstate {α : Type} (f : State → α → State) (l : List α) (s : State)
    (hf : ∀ s a, (f s a).svc.state = s.svc.state) : (l.foldl f s).svc.state = s.svc.state := by
  induction l generalizing s with
  | nil => rfl
  | cons a l ih => rw [List.foldl_cons, ih, hf]

@[simp] theorem answered_sstate (x : State × Placed) (f : State → Nat → Tick → Tick → State) (g : State → Bool → State)
    (hf : ∀ t id a b, (f t id a b).svc.state = t.svc.state) (hg : ∀ t b, (g t b).svc.state = t.svc.state) :
    (answered x f g).svc.state = x.1.svc.state := by
  obtain ⟨t, _ | _ | _⟩ := x
  · exact hf _ _ _ _
  · exact hg _ _
  · exact hg _ _

@[simp] theorem State.ite_ho (c : Prop) [Decidable c] (s t : State) :
    (if c then s else t).ho = if c then s.ho else t.ho := by split <;> rfl

@[simp] theorem State.foldl_ho {α : Type} (f : State → α → State) (l : List α) (s : State)
    (hf : ∀ s a, (f s a).ho = s.ho) : (l.foldl f s).ho = s.ho := by
  induction l generalizing s with
  | nil => rfl
  | cons a l ih => rw [List.foldl_cons, ih, hf]

@[simp] theorem answered_ho (x : State × Placed) (f : State → Nat → Tick → Tick → State) (g : State → Bool → State)
    (hf : ∀ t id a b, (f t id a b).ho = t.ho) (hg : ∀ t b, (g t b).ho = t.ho) :
    (answered x f g).ho = x.1.ho := by
  obtain ⟨t, _ | _ | _⟩ := x
  · exact hf _ _ _ _
  · exact hg _ _
  · exact hg _ _

@[simp] theorem State.ite_sched (c : Prop) [Decidable c] (s t : State) :
    (if c then s else t).pag.sched = if c then s.pag.sched else t.pag.sched := by split <;> rfl

@[simp] theorem State.foldl_sched {α : Type} (f : State → α → State) (l : List α) (s : State)
    (hf : ∀ s a, (f s a).pag.sched = s.pag.sched) : (l.foldl f s).pag.sched = s.pag.sched := by
  induction l generalizing s with
  | nil => rfl
  | cons a l ih => rw [List.foldl_cons, ih, hf]

@[simp] theorem answered_sched (x : State × Placed) (f : State → Nat → Tick → Tick → State) (g : State → Bool → State)
    (hf : ∀ t id a b, (f t id a b).pag.sched = t.pag.sched) (hg : ∀ t b, (g t b).pag.sched = t.pag.sched) :
    (answered x f g).pag.sched = x.1.pag.sched := by
  obtain ⟨t, _ | _ | _⟩ := x
  · exact hf _ _ _ _
  · exact hg _ _
  · exact hg _ _

@[simp] theorem State.ite_calls (c : Prop) [Decidable c] (s t : State) :
    (if c then s else t).calls = if c then s.calls else t.calls := by split <;> rfl

@[simp] theorem State.foldl_calls {α : Type} (f : State → α → State) (l : List α) (s : State)
    (hf : ∀ s a, (f s a).calls = s.calls) : (l.foldl f s).calls = s.calls := by
  induction l generalizing s with
  | nil => rfl
  | cons a l ih => rw [List.foldl_cons, ih, hf]

@[simp] theorem answered_calls (x : State × Placed) (f : State → Nat → Tick → Tick → State) (g : State → Bool → State)
    (hf : ∀ t id a b, (f t id a b).calls = t.calls) (hg : ∀ t b, (g t b).calls = t.calls) :
    (answered x f g).calls = x.1.calls := by
  obtain ⟨t, _ | _ | _⟩ := x
  · exact hf _ _ _ _
  · exact hg _ _
  · exact hg _ _

@[simp] theorem State.ite_text (c : Prop) [Decidable c] (s t : State) :
    (if c then s else t).text = if c then s.text else t.text := by split <;> rfl

@[simp] theorem State.foldl_text {α : Type} (f : State → α → State) (l : List α) (s : State)
    (hf : ∀ s a, (f s a).text = s.text) : (l.foldl f s).text = s.text := by
  induction l generalizing s with
  | nil => rfl
  | cons a l ih => rw [List.foldl_cons, ih, hf]

@[simp] theorem answered_text (x : State × Placed) (f : State → Nat → Tick → Tick → State) (g : State → Bool → State)
    (hf : ∀ t id a b, (f t id a b).text = t.text) (hg : ∀ t b, (g t b).text = t.text) :
    (answered x f g).text = x.1.text := by
  obtain ⟨t, _ | _ | _⟩ := x
  · exact hf _ _ _ _
  · exact hg _ _
  · exact hg _ _

@[simp] theorem State.ite_agenda (c : Prop) [Decidable c] (s t : State) :
    (if c then s else t).agenda = if c then s.agenda else t.agenda := by split <;> rfl

@[simp] theorem State.foldl_agenda {α : Type} (f : State → α → State) (l : List α) (s : State)
    (hf : ∀ s a, (f s a).agenda = s.agenda) : (l.foldl f s).agenda = s.agenda := by
  induction l generalizing s with
  | nil => rfl
  | cons a l ih => rw [List.foldl_cons, ih, hf]

@[simp] theorem answered_agenda (x : State × Placed) (f : State → Nat → Tick → Tick → State) (g : State → Bool → State)
    (hf : ∀ t id a b, (f t id a b).agenda = t.agenda) (hg : ∀ t b, (g t b).agenda = t.agenda) :
    (answered x f g).agenda = x.1.agenda := by
  obtain ⟨t, _ | _ | _⟩ := x
  · exact hf _ _ _ _
  · exact hg _ _
  · exact hg _ _

@[simp] theorem State.ite_awake (c : Prop) [Decidable c] (s t : State) :
    (if c then s else t).pag.isAwake = if c then s.pag.isAwake else t.pag.isAwake := by split <;> rfl

@[simp] theorem State.foldl_awake {α : Type} (f : State → α → State) (l : List α) (s : State)
    (hf : ∀ s a, (f s a).pag.isAwake = s.pag.isAwake) : (l.foldl f s).pag.isAwake = s.pag.isAwake := by
  induction l generalizing s with
  | nil => rfl
  | cons a l ih => rw [List.foldl_cons, ih, hf]

@[simp] theorem answered_awake (x : State × Placed) (f : State → Nat → Tick → Tick → State) (g : State → Bool → State)
    (hf : ∀ t id a b, (f t id a b).pag.isAwake = t.pag.isAwake) (hg : ∀ t b, (g t b).pag.isAwake = t.pag.isAwake) :
    (answered x f g).pag.isAwake = x.1.pag.isAwake := by
  obtain ⟨t, _ | _ | _⟩ := x
  · exact hf _ _ _ _
  · exact hg _ _
  · exact hg _ _

@[simp] theorem Airtime.ite_anchor (c : Prop) [Decidable c] (a b : Airtime) :
    (if c then a else b).anchor = if c then a.anchor else b.anchor := by split <;> rfl

@[simp] theorem Airtime.ite_plan (c : Prop) [Decidable c] (a b : Airtime) :
    (if c then a else b).plan = if c then a.plan else b.plan := by split <;> rfl

@[simp] theorem Measure.ite_params (c : Prop) [Decidable c] (a b : Measure) :
    (if c then a else b).params = if c then a.params else b.params := by split <;> rfl

@[simp] theorem Service.ite_state (c : Prop) [Decidable c] (a b : Service) :
    (if c then a else b).state = if c then a.state else b.state := by split <;> rfl

@[simp] theorem Paging.ite_sched (c : Prop) [Decidable c] (a b : Paging) :
    (if c then a else b).sched = if c then a.sched else b.sched := by split <;> rfl

@[simp] theorem Paging.ite_isAwake (c : Prop) [Decidable c] (a b : Paging) :
    (if c then a else b).isAwake = if c then a.isAwake else b.isAwake := by split <;> rfl

@[simp] theorem State.push_frame (s : State) (j : Job) :
    (s.push j).line = s.line ∧ (s.push j).cmd = s.cmd ∧ (s.push j).air = s.air ∧ (s.push j).meas = s.meas
      ∧ (s.push j).svc = s.svc ∧ (s.push j).ho = s.ho ∧ (s.push j).pag.sched = s.pag.sched
      ∧ (s.push j).calls = s.calls ∧ (s.push j).text = s.text ∧ (s.push j).pag.isAwake = s.pag.isAwake := by
  simp [State.push]

@[simp] theorem State.beginSettling_frame (s : State) (edge : Bool) :
    (s.beginSettling edge).line = s.line ∧ (s.beginSettling edge).cmd = s.cmd ∧ (s.beginSettling edge).air = s.air
      ∧ (s.beginSettling edge).meas = s.meas ∧ (s.beginSettling edge).svc = s.svc ∧ (s.beginSettling edge).ho = s.ho
      ∧ (s.beginSettling edge).calls = s.calls ∧ (s.beginSettling edge).text = s.text
      ∧ (s.beginSettling edge).agenda = s.agenda := by
  simp [State.beginSettling]

@[simp] theorem State.internalWake_awake (s : State) : s.internalWake.pag.isAwake = s.pag.isAwake := by
  unfold State.internalWake
  split
  · rename_i h
    simp [State.beginSettling, Paging.isAwake, eq_of_beq h]
  · rfl

@[simp] theorem State.internalWake_frame (s : State) :
    s.internalWake.line = s.line ∧ s.internalWake.cmd = s.cmd ∧ s.internalWake.air = s.air
      ∧ s.internalWake.meas = s.meas ∧ s.internalWake.svc = s.svc ∧ s.internalWake.ho = s.ho
      ∧ s.internalWake.calls = s.calls ∧ s.internalWake.text = s.text ∧ s.internalWake.agenda = s.agenda := by
  simp [State.internalWake]

@[simp] theorem State.offer_frame (s : State) (owner : UnitId) (cls topic : Nat) (payload : List Byte) (span : Option TxSpan) :
    (s.offer owner cls topic payload span).cmd = s.cmd ∧ (s.offer owner cls topic payload span).air = s.air
      ∧ (s.offer owner cls topic payload span).meas = s.meas ∧ (s.offer owner cls topic payload span).svc = s.svc
      ∧ (s.offer owner cls topic payload span).ho = s.ho ∧ (s.offer owner cls topic payload span).calls = s.calls
      ∧ (s.offer owner cls topic payload span).text = s.text
      ∧ (s.offer owner cls topic payload span).agenda = s.agenda
      ∧ (s.offer owner cls topic payload span).pag.isAwake = s.pag.isAwake := by
  simp [State.offer]

@[simp] theorem State.offerRadio_frame (s : State) (owner : UnitId) (cls topic : Nat) (fields : List Byte) :
    (s.offerRadio owner cls topic fields).cmd = s.cmd ∧ (s.offerRadio owner cls topic fields).air = s.air
      ∧ (s.offerRadio owner cls topic fields).meas = s.meas ∧ (s.offerRadio owner cls topic fields).svc = s.svc
      ∧ (s.offerRadio owner cls topic fields).ho = s.ho ∧ (s.offerRadio owner cls topic fields).calls = s.calls
      ∧ (s.offerRadio owner cls topic fields).text = s.text
      ∧ (s.offerRadio owner cls topic fields).agenda = s.agenda
      ∧ (s.offerRadio owner cls topic fields).pag.isAwake = s.pag.isAwake := by
  simp [State.offerRadio]

@[simp] theorem State.remove_frame (s : State) (serial : Nat) :
    (s.remove serial).cmd = s.cmd ∧ (s.remove serial).air = s.air ∧ (s.remove serial).meas = s.meas
      ∧ (s.remove serial).svc = s.svc ∧ (s.remove serial).ho = s.ho ∧ (s.remove serial).pag.sched = s.pag.sched
      ∧ (s.remove serial).calls = s.calls ∧ (s.remove serial).text = s.text ∧ (s.remove serial).agenda = s.agenda
      ∧ (s.remove serial).pag.isAwake = s.pag.isAwake := by
  simp [State.remove]

@[simp] theorem State.removeReq_cmd (s : State) (r : ReqState) : (s.removeReq r).cmd = s.cmd := by
  cases r <;> simp [State.removeReq]

@[simp] theorem State.removeReq_air (s : State) (r : ReqState) : (s.removeReq r).air = s.air := by
  cases r <;> simp [State.removeReq]

@[simp] theorem State.removeReq_meas (s : State) (r : ReqState) : (s.removeReq r).meas = s.meas := by
  cases r <;> simp [State.removeReq]

@[simp] theorem State.removeReq_svc (s : State) (r : ReqState) : (s.removeReq r).svc = s.svc := by
  cases r <;> simp [State.removeReq]

@[simp] theorem State.removeReq_ho (s : State) (r : ReqState) : (s.removeReq r).ho = s.ho := by
  cases r <;> simp [State.removeReq]

@[simp] theorem State.removeReq_sched (s : State) (r : ReqState) : (s.removeReq r).pag.sched = s.pag.sched := by
  cases r <;> simp [State.removeReq]

@[simp] theorem State.removeReq_calls (s : State) (r : ReqState) : (s.removeReq r).calls = s.calls := by
  cases r <;> simp [State.removeReq]

@[simp] theorem State.removeReq_text (s : State) (r : ReqState) : (s.removeReq r).text = s.text := by
  cases r <;> simp [State.removeReq]

@[simp] theorem State.removeReq_agenda (s : State) (r : ReqState) : (s.removeReq r).agenda = s.agenda := by
  cases r <;> simp [State.removeReq]

@[simp] theorem State.removeReq_awake (s : State) (r : ReqState) : (s.removeReq r).pag.isAwake = s.pag.isAwake := by
  cases r <;> simp [State.removeReq]

@[simp] theorem State.completeRecord_frame (s : State) :
    s.completeRecord.cmd = s.cmd ∧ s.completeRecord.air = s.air ∧ s.completeRecord.meas = s.meas
      ∧ s.completeRecord.svc = s.svc ∧ s.completeRecord.ho = s.ho ∧ s.completeRecord.pag.sched = s.pag.sched
      ∧ s.completeRecord.calls = s.calls ∧ s.completeRecord.text = s.text ∧ s.completeRecord.agenda = s.agenda
      ∧ s.completeRecord.pag.isAwake = s.pag.isAwake := by
  simp [State.completeRecord]

@[simp] theorem State.buildNotice_frame (s : State) :
    s.buildNotice.air = s.air ∧ s.buildNotice.meas = s.meas ∧ s.buildNotice.svc = s.svc ∧ s.buildNotice.ho = s.ho
      ∧ s.buildNotice.calls = s.calls ∧ s.buildNotice.text = s.text ∧ s.buildNotice.agenda = s.agenda
      ∧ s.buildNotice.pag.isAwake = s.pag.isAwake := by
  unfold State.buildNotice
  repeat' split
  all_goals simp

@[simp] theorem State.raise_frame (s : State) (k : NoticeKind) (detail : List Byte) :
    (s.raise k detail).air = s.air ∧ (s.raise k detail).meas = s.meas ∧ (s.raise k detail).svc = s.svc
      ∧ (s.raise k detail).ho = s.ho ∧ (s.raise k detail).calls = s.calls ∧ (s.raise k detail).text = s.text
      ∧ (s.raise k detail).agenda = s.agenda ∧ (s.raise k detail).pag.isAwake = s.pag.isAwake := by
  simp [State.raise]

@[simp] theorem State.noticeGone_frame (s : State) (serial : Nat) (sent : Bool) :
    (s.noticeGone serial sent).air = s.air ∧ (s.noticeGone serial sent).meas = s.meas
      ∧ (s.noticeGone serial sent).svc = s.svc ∧ (s.noticeGone serial sent).ho = s.ho
      ∧ (s.noticeGone serial sent).calls = s.calls ∧ (s.noticeGone serial sent).text = s.text
      ∧ (s.noticeGone serial sent).agenda = s.agenda ∧ (s.noticeGone serial sent).pag.isAwake = s.pag.isAwake := by
  unfold State.noticeGone
  split <;> simp

@[simp] theorem State.setTallies_frame (s : State) (sendTally listenTally : Nat) :
    (s.setTallies sendTally listenTally).air = s.air ∧ (s.setTallies sendTally listenTally).meas = s.meas
      ∧ (s.setTallies sendTally listenTally).svc = s.svc ∧ (s.setTallies sendTally listenTally).ho = s.ho
      ∧ (s.setTallies sendTally listenTally).calls = s.calls ∧ (s.setTallies sendTally listenTally).text = s.text
      ∧ (s.setTallies sendTally listenTally).agenda = s.agenda
      ∧ (s.setTallies sendTally listenTally).pag.isAwake = s.pag.isAwake := by
  simp [State.setTallies]

@[simp] theorem State.sendRise_frame (s : State) (n : Nat) :
    (s.sendRise n).air = s.air ∧ (s.sendRise n).meas = s.meas ∧ (s.sendRise n).svc = s.svc
      ∧ (s.sendRise n).ho = s.ho ∧ (s.sendRise n).calls = s.calls ∧ (s.sendRise n).text = s.text
      ∧ (s.sendRise n).agenda = s.agenda ∧ (s.sendRise n).pag.isAwake = s.pag.isAwake := by
  simp [State.sendRise]

@[simp] theorem State.listenRise_frame (s : State) (n : Nat) :
    (s.listenRise n).air = s.air ∧ (s.listenRise n).meas = s.meas ∧ (s.listenRise n).svc = s.svc
      ∧ (s.listenRise n).ho = s.ho ∧ (s.listenRise n).calls = s.calls ∧ (s.listenRise n).text = s.text
      ∧ (s.listenRise n).agenda = s.agenda ∧ (s.listenRise n).pag.isAwake = s.pag.isAwake := by
  simp [State.listenRise]

@[simp] theorem State.sendFall_frame (s : State) :
    s.sendFall.air = s.air ∧ s.sendFall.meas = s.meas ∧ s.sendFall.svc = s.svc ∧ s.sendFall.ho = s.ho
      ∧ s.sendFall.calls = s.calls ∧ s.sendFall.text = s.text ∧ s.sendFall.agenda = s.agenda
      ∧ s.sendFall.pag.isAwake = s.pag.isAwake := by
  simp [State.sendFall]

@[simp] theorem State.listenFall_frame (s : State) :
    s.listenFall.air = s.air ∧ s.listenFall.meas = s.meas ∧ s.listenFall.svc = s.svc ∧ s.listenFall.ho = s.ho
      ∧ s.listenFall.calls = s.calls ∧ s.listenFall.text = s.text ∧ s.listenFall.agenda = s.agenda
      ∧ s.listenFall.pag.isAwake = s.pag.isAwake := by
  simp [State.listenFall]

@[simp] theorem State.leavePlan_frame (s : State) (id : Nat) :
    (s.leavePlan id).line = s.line ∧ (s.leavePlan id).cmd = s.cmd ∧ (s.leavePlan id).air.anchor = s.air.anchor
      ∧ (s.leavePlan id).meas = s.meas ∧ (s.leavePlan id).svc = s.svc ∧ (s.leavePlan id).ho = s.ho
      ∧ (s.leavePlan id).pag.sched = s.pag.sched ∧ (s.leavePlan id).calls = s.calls ∧ (s.leavePlan id).text = s.text
      ∧ (s.leavePlan id).agenda = s.agenda ∧ (s.leavePlan id).pag.isAwake = s.pag.isAwake := by
  simp [State.leavePlan]

@[simp] theorem State.modWindow_frame (s : State) (id : Nat) (f : Window → Window) :
    (s.modWindow id f).line = s.line ∧ (s.modWindow id f).cmd = s.cmd ∧ (s.modWindow id f).air.anchor = s.air.anchor
      ∧ (s.modWindow id f).meas = s.meas ∧ (s.modWindow id f).svc = s.svc ∧ (s.modWindow id f).ho = s.ho
      ∧ (s.modWindow id f).pag.sched = s.pag.sched ∧ (s.modWindow id f).calls = s.calls
      ∧ (s.modWindow id f).text = s.text ∧ (s.modWindow id f).agenda = s.agenda
      ∧ (s.modWindow id f).pag.isAwake = s.pag.isAwake := by
  simp [State.modWindow]

@[simp] theorem State.reportWindow_frame (s : State) (w : Window) (r : Report) :
    (s.reportWindow w r).line = s.line ∧ (s.reportWindow w r).cmd = s.cmd ∧ (s.reportWindow w r).air = s.air
      ∧ (s.reportWindow w r).meas = s.meas ∧ (s.reportWindow w r).svc = s.svc ∧ (s.reportWindow w r).ho = s.ho
      ∧ (s.reportWindow w r).pag.sched = s.pag.sched ∧ (s.reportWindow w r).calls = s.calls
      ∧ (s.reportWindow w r).text = s.text ∧ (s.reportWindow w r).pag.isAwake = s.pag.isAwake := by
  simp [State.reportWindow]

@[simp] theorem State.offerClaim_frame (s : State) (w : Window) :
    (s.offerClaim w).cmd = s.cmd ∧ (s.offerClaim w).air.anchor = s.air.anchor ∧ (s.offerClaim w).meas = s.meas
      ∧ (s.offerClaim w).svc = s.svc ∧ (s.offerClaim w).ho = s.ho ∧ (s.offerClaim w).calls = s.calls
      ∧ (s.offerClaim w).text = s.text ∧ (s.offerClaim w).agenda = s.agenda
      ∧ (s.offerClaim w).pag.isAwake = s.pag.isAwake := by
  simp [State.offerClaim]

@[simp] theorem State.offerWithdraw_frame (s : State) (id cls : Nat) (newEnd : Option Tick) :
    (s.offerWithdraw id cls newEnd).cmd = s.cmd ∧ (s.offerWithdraw id cls newEnd).air = s.air
      ∧ (s.offerWithdraw id cls newEnd).meas = s.meas ∧ (s.offerWithdraw id cls newEnd).svc = s.svc
      ∧ (s.offerWithdraw id cls newEnd).ho = s.ho ∧ (s.offerWithdraw id cls newEnd).calls = s.calls
      ∧ (s.offerWithdraw id cls newEnd).text = s.text ∧ (s.offerWithdraw id cls newEnd).agenda = s.agenda
      ∧ (s.offerWithdraw id cls newEnd).pag.isAwake = s.pag.isAwake := by
  simp [State.offerWithdraw]

@[simp] theorem State.dropClaim_frame (s : State) (w : Window) :
    (s.dropClaim w).cmd = s.cmd ∧ (s.dropClaim w).air.anchor = s.air.anchor ∧ (s.dropClaim w).air.plan = s.air.plan
      ∧ (s.dropClaim w).meas = s.meas ∧ (s.dropClaim w).svc = s.svc ∧ (s.dropClaim w).ho = s.ho
      ∧ (s.dropClaim w).pag.sched = s.pag.sched ∧ (s.dropClaim w).calls = s.calls ∧ (s.dropClaim w).text = s.text
      ∧ (s.dropClaim w).agenda = s.agenda ∧ (s.dropClaim w).pag.isAwake = s.pag.isAwake := by
  unfold State.dropClaim
  split <;> simp

@[simp] theorem State.retract_frame (s : State) (w : Window) :
    (s.retract w).cmd = s.cmd ∧ (s.retract w).air.anchor = s.air.anchor ∧ (s.retract w).air.plan = s.air.plan
      ∧ (s.retract w).meas = s.meas ∧ (s.retract w).svc = s.svc ∧ (s.retract w).ho = s.ho
      ∧ (s.retract w).calls = s.calls ∧ (s.retract w).text = s.text ∧ (s.retract w).agenda = s.agenda
      ∧ (s.retract w).pag.isAwake = s.pag.isAwake := by
  unfold State.retract
  split <;> simp

@[simp] theorem State.cutWindow_frame (s : State) (w : Window) (by_ : GaveWay) (stop : Tick) :
    (s.cutWindow w by_ stop).line = s.line ∧ (s.cutWindow w by_ stop).cmd = s.cmd
      ∧ (s.cutWindow w by_ stop).air.anchor = s.air.anchor ∧ (s.cutWindow w by_ stop).meas = s.meas
      ∧ (s.cutWindow w by_ stop).svc = s.svc ∧ (s.cutWindow w by_ stop).ho = s.ho
      ∧ (s.cutWindow w by_ stop).pag = s.pag ∧ (s.cutWindow w by_ stop).calls = s.calls
      ∧ (s.cutWindow w by_ stop).text = s.text ∧ (s.cutWindow w by_ stop).agenda = s.agenda := by
  simp [State.cutWindow]

@[simp] theorem State.giveWay_frame (s : State) (w : Window) (by_ : GaveWay) (stop : Tick) :
    (s.giveWay w by_ stop).cmd = s.cmd ∧ (s.giveWay w by_ stop).air.anchor = s.air.anchor
      ∧ (s.giveWay w by_ stop).meas = s.meas ∧ (s.giveWay w by_ stop).svc = s.svc ∧ (s.giveWay w by_ stop).ho = s.ho
      ∧ (s.giveWay w by_ stop).calls = s.calls ∧ (s.giveWay w by_ stop).text = s.text
      ∧ (s.giveWay w by_ stop).pag.isAwake = s.pag.isAwake := by
  simp [State.giveWay]

@[simp] theorem State.allGiveWay_frame (s : State) (ws : List Window) (by_ : GaveWay) (stop : Tick) :
    (s.allGiveWay ws by_ stop).cmd = s.cmd ∧ (s.allGiveWay ws by_ stop).air.anchor = s.air.anchor
      ∧ (s.allGiveWay ws by_ stop).meas = s.meas ∧ (s.allGiveWay ws by_ stop).svc = s.svc
      ∧ (s.allGiveWay ws by_ stop).ho = s.ho ∧ (s.allGiveWay ws by_ stop).calls = s.calls
      ∧ (s.allGiveWay ws by_ stop).text = s.text ∧ (s.allGiveWay ws by_ stop).pag.isAwake = s.pag.isAwake := by
  simp [State.allGiveWay]

@[simp] theorem State.addWindow_cmd (s : State) (r : Request) (start stop : Tick) :
    (s.addWindow r start stop).1.cmd = s.cmd := by
  unfold State.addWindow
  simp

@[simp] theorem State.addWindow_anchor (s : State) (r : Request) (start stop : Tick) :
    (s.addWindow r start stop).1.air.anchor = s.air.anchor := by
  unfold State.addWindow
  simp

@[simp] theorem State.addWindow_meas (s : State) (r : Request) (start stop : Tick) :
    (s.addWindow r start stop).1.meas = s.meas := by
  unfold State.addWindow
  simp

@[simp] theorem State.addWindow_svc (s : State) (r : Request) (start stop : Tick) :
    (s.addWindow r start stop).1.svc = s.svc := by
  unfold State.addWindow
  simp

@[simp] theorem State.addWindow_ho (s : State) (r : Request) (start stop : Tick) :
    (s.addWindow r start stop).1.ho = s.ho := by
  unfold State.addWindow
  simp

@[simp] theorem State.addWindow_calls (s : State) (r : Request) (start stop : Tick) :
    (s.addWindow r start stop).1.calls = s.calls := by
  unfold State.addWindow
  simp

@[simp] theorem State.addWindow_text (s : State) (r : Request) (start stop : Tick) :
    (s.addWindow r start stop).1.text = s.text := by
  unfold State.addWindow
  simp

@[simp] theorem State.addWindow_agenda (s : State) (r : Request) (start stop : Tick) :
    (s.addWindow r start stop).1.agenda = s.agenda := by
  unfold State.addWindow
  simp

@[simp] theorem State.addWindow_awake (s : State) (r : Request) (start stop : Tick) :
    (s.addWindow r start stop).1.pag.isAwake = s.pag.isAwake := by
  unfold State.addWindow
  simp

@[simp] theorem State.request_cmd (s : State) (r : Request) : (s.request r).1.cmd = s.cmd := by
  unfold State.request
  split
  · rfl
  · split
    · rfl
    · simp

@[simp] theorem State.request_anchor (s : State) (r : Request) : (s.request r).1.air.anchor = s.air.anchor := by
  unfold State.request
  split
  · rfl
  · split
    · rfl
    · simp

@[simp] theorem State.request_meas (s : State) (r : Request) : (s.request r).1.meas = s.meas := by
  unfold State.request
  split
  · rfl
  · split
    · rfl
    · simp

@[simp] theorem State.request_svc (s : State) (r : Request) : (s.request r).1.svc = s.svc := by
  unfold State.request
  split
  · rfl
  · split
    · rfl
    · simp

@[simp] theorem State.request_ho (s : State) (r : Request) : (s.request r).1.ho = s.ho := by
  unfold State.request
  split
  · rfl
  · split
    · rfl
    · simp

@[simp] theorem State.request_calls (s : State) (r : Request) : (s.request r).1.calls = s.calls := by
  unfold State.request
  split
  · rfl
  · split
    · rfl
    · simp

@[simp] theorem State.request_text (s : State) (r : Request) : (s.request r).1.text = s.text := by
  unfold State.request
  split
  · rfl
  · split
    · rfl
    · simp

@[simp] theorem State.request_awake (s : State) (r : Request) : (s.request r).1.pag.isAwake = s.pag.isAwake := by
  unfold State.request
  split
  · rfl
  · split
    · rfl
    · simp

/-! What a unit that asks for a window leaves as it is, whatever the answer is. -/

@[simp] theorem State.ask_cmd (s : State) (r : Request) (w : Waiter) (f : State → Nat → Tick → Tick → State)
    (g : State → Bool → State) (hf : ∀ t id a b, (f t id a b).cmd = t.cmd) (hg : ∀ t b, (g t b).cmd = t.cmd) :
    (s.ask r w f g).cmd = s.cmd := by
  unfold State.ask
  rw [answered_cmd _ _ _ (fun t id a b => by split <;> simp [hf]) hg]
  simp

@[simp] theorem State.ask_anchor (s : State) (r : Request) (w : Waiter) (f : State → Nat → Tick → Tick → State)
    (g : State → Bool → State) (hf : ∀ t id a b, (f t id a b).air.anchor = t.air.anchor) (hg : ∀ t b, (g t b).air.anchor = t.air.anchor) :
    (s.ask r w f g).air.anchor = s.air.anchor := by
  unfold State.ask
  rw [answered_anchor _ _ _ (fun t id a b => by split <;> simp [hf]) hg]
  simp

@[simp] theorem State.ask_meas (s : State) (r : Request) (w : Waiter) (f : State → Nat → Tick → Tick → State)
    (g : State → Bool → State) (hf : ∀ t id a b, (f t id a b).meas = t.meas) (hg : ∀ t b, (g t b).meas = t.meas) :
    (s.ask r w f g).meas = s.meas := by
  unfold State.ask
  rw [answered_meas _ _ _ (fun t id a b => by split <;> simp [hf]) hg]
  simp

@[simp] theorem State.ask_params (s : State) (r : Request) (w : Waiter) (f : State → Nat → Tick → Tick → State)
    (g : State → Bool → State) (hf : ∀ t id a b, (f t id a b).meas.params = t.meas.params) (hg : ∀ t b, (g t b).meas.params = t.meas.params) :
    (s.ask r w f g).meas.params = s.meas.params := by
  unfold State.ask
  rw [answered_params _ _ _ (fun t id a b => by split <;> simp [hf]) hg]
  simp

@[simp] theorem State.ask_svc (s : State) (r : Request) (w : Waiter) (f : State → Nat → Tick → Tick → State)
    (g : State → Bool → State) (hf : ∀ t id a b, (f t id a b).svc = t.svc) (hg : ∀ t b, (g t b).svc = t.svc) :
    (s.ask r w f g).svc = s.svc := by
  unfold State.ask
  rw [answered_svc _ _ _ (fun t id a b => by split <;> simp [hf]) hg]
  simp

@[simp] theorem State.ask_sstate (s : State) (r : Request) (w : Waiter) (f : State → Nat → Tick → Tick → State)
    (g : State → Bool → State) (hf : ∀ t id a b, (f t id a b).svc.state = t.svc.state) (hg : ∀ t b, (g t b).svc.state = t.svc.state) :
    (s.ask r w f g).svc.state = s.svc.state := by
  unfold State.ask
  rw [answered_sstate _ _ _ (fun t id a b => by split <;> simp [hf]) hg]
  simp

@[simp] theorem State.ask_ho (s : State) (r : Request) (w : Waiter) (f : State → Nat → Tick → Tick → State)
    (g : State → Bool → State) (hf : ∀ t id a b, (f t id a b).ho = t.ho) (hg : ∀ t b, (g t b).ho = t.ho) :
    (s.ask r w f g).ho = s.ho := by
  unfold State.ask
  rw [answered_ho _ _ _ (fun t id a b => by split <;> simp [hf]) hg]
  simp

@[simp] theorem State.ask_calls (s : State) (r : Request) (w : Waiter) (f : State → Nat → Tick → Tick → State)
    (g : State → Bool → State) (hf : ∀ t id a b, (f t id a b).calls = t.calls) (hg : ∀ t b, (g t b).calls = t.calls) :
    (s.ask r w f g).calls = s.calls := by
  unfold State.ask
  rw [answered_calls _ _ _ (fun t id a b => by split <;> simp [hf]) hg]
  simp

@[simp] theorem State.ask_text (s : State) (r : Request) (w : Waiter) (f : State → Nat → Tick → Tick → State)
    (g : State → Bool → State) (hf : ∀ t id a b, (f t id a b).text = t.text) (hg : ∀ t b, (g t b).text = t.text) :
    (s.ask r w f g).text = s.text := by
  unfold State.ask
  rw [answered_text _ _ _ (fun t id a b => by split <;> simp [hf]) hg]
  simp

@[simp] theorem State.ask_awake (s : State) (r : Request) (w : Waiter) (f : State → Nat → Tick → Tick → State)
    (g : State → Bool → State) (hf : ∀ t id a b, (f t id a b).pag.isAwake = t.pag.isAwake) (hg : ∀ t b, (g t b).pag.isAwake = t.pag.isAwake) :
    (s.ask r w f g).pag.isAwake = s.pag.isAwake := by
  unfold State.ask
  rw [answered_awake _ _ _ (fun t id a b => by split <;> simp [hf]) hg]
  simp

@[simp] theorem State.lapse_frame (s : State) (w : Window) (late : Bool) :
    (s.lapse w late).cmd = s.cmd ∧ (s.lapse w late).air.anchor = s.air.anchor ∧ (s.lapse w late).meas = s.meas
      ∧ (s.lapse w late).svc = s.svc ∧ (s.lapse w late).ho = s.ho ∧ (s.lapse w late).calls = s.calls
      ∧ (s.lapse w late).text = s.text ∧ (s.lapse w late).pag.isAwake = s.pag.isAwake := by
  simp [State.lapse]

@[simp] theorem State.claimSent_frame (s : State) (serial : Nat) (tail : Tick) :
    (s.claimSent serial tail).cmd = s.cmd ∧ (s.claimSent serial tail).air.anchor = s.air.anchor
      ∧ (s.claimSent serial tail).meas = s.meas ∧ (s.claimSent serial tail).svc = s.svc
      ∧ (s.claimSent serial tail).ho = s.ho ∧ (s.claimSent serial tail).calls = s.calls
      ∧ (s.claimSent serial tail).text = s.text ∧ (s.claimSent serial tail).pag.isAwake = s.pag.isAwake := by
  unfold State.claimSent
  repeat' split
  all_goals simp

@[simp] theorem State.claimUnsent_frame (s : State) (serial : Nat) :
    (s.claimUnsent serial).cmd = s.cmd ∧ (s.claimUnsent serial).air.anchor = s.air.anchor
      ∧ (s.claimUnsent serial).meas = s.meas ∧ (s.claimUnsent serial).svc = s.svc ∧ (s.claimUnsent serial).ho = s.ho
      ∧ (s.claimUnsent serial).calls = s.calls ∧ (s.claimUnsent serial).text = s.text
      ∧ (s.claimUnsent serial).pag.isAwake = s.pag.isAwake := by
  unfold State.claimUnsent
  split <;> simp

@[simp] theorem State.clearPlan_frame (s : State) :
    s.clearPlan.cmd = s.cmd ∧ s.clearPlan.air.anchor = s.air.anchor ∧ s.clearPlan.meas = s.meas
      ∧ s.clearPlan.svc = s.svc ∧ s.clearPlan.ho = s.ho ∧ s.clearPlan.calls = s.calls ∧ s.clearPlan.text = s.text
      ∧ s.clearPlan.agenda = s.agenda ∧ s.clearPlan.pag.isAwake = s.pag.isAwake := by
  simp [State.clearPlan]

@[simp] theorem State.displaceFor_frame (s : State) (c : Claim) (t : Tick) :
    (s.displaceFor c t).cmd = s.cmd ∧ (s.displaceFor c t).air.anchor = s.air.anchor ∧ (s.displaceFor c t).meas = s.meas
      ∧ (s.displaceFor c t).svc = s.svc ∧ (s.displaceFor c t).ho = s.ho ∧ (s.displaceFor c t).calls = s.calls
      ∧ (s.displaceFor c t).text = s.text ∧ (s.displaceFor c t).pag.isAwake = s.pag.isAwake := by
  simp [State.displaceFor]

@[simp] theorem State.dropReport_frame (s : State) :
    s.dropReport.cmd = s.cmd ∧ s.dropReport.air = s.air ∧ s.dropReport.meas = s.meas ∧ s.dropReport.svc = s.svc
      ∧ s.dropReport.pag.sched = s.pag.sched ∧ s.dropReport.calls = s.calls ∧ s.dropReport.text = s.text
      ∧ s.dropReport.agenda = s.agenda ∧ s.dropReport.pag.isAwake = s.pag.isAwake := by
  unfold State.dropReport
  split <;> simp

@[simp] theorem State.setEmptied_frame (s : State) :
    s.setEmptied.cmd = s.cmd ∧ s.setEmptied.air = s.air ∧ s.setEmptied.meas = s.meas ∧ s.setEmptied.svc = s.svc
      ∧ s.setEmptied.pag.sched = s.pag.sched ∧ s.setEmptied.calls = s.calls ∧ s.setEmptied.text = s.text
      ∧ s.setEmptied.agenda = s.agenda ∧ s.setEmptied.pag.isAwake = s.pag.isAwake := by
  simp [State.setEmptied]

@[simp] theorem State.memberLeft_frame (s : State) (key : CellKey) (why : LeaveReason) :
    (s.memberLeft key why).cmd = s.cmd ∧ (s.memberLeft key why).air = s.air ∧ (s.memberLeft key why).meas = s.meas
      ∧ (s.memberLeft key why).svc = s.svc ∧ (s.memberLeft key why).pag.sched = s.pag.sched
      ∧ (s.memberLeft key why).calls = s.calls ∧ (s.memberLeft key why).text = s.text ∧ (s.memberLeft key why).agenda = s.agenda
      ∧ (s.memberLeft key why).pag.isAwake = s.pag.isAwake := by
  simp [State.memberLeft]

@[simp] theorem State.rankingReset_frame (s : State) :
    s.rankingReset.cmd = s.cmd ∧ s.rankingReset.air = s.air ∧ s.rankingReset.meas.params = s.meas.params
      ∧ s.rankingReset.svc = s.svc ∧ s.rankingReset.pag.sched = s.pag.sched ∧ s.rankingReset.calls = s.calls
      ∧ s.rankingReset.text = s.text ∧ s.rankingReset.agenda = s.agenda ∧ s.rankingReset.pag.isAwake = s.pag.isAwake := by
  simp [State.rankingReset]

@[simp] theorem State.uplink_cmd (s : State) (owner : UnitId) (topic : Nat) (fields : List Byte) :
    (s.uplink owner topic fields).1.cmd = s.cmd := by
  unfold State.uplink
  repeat' split
  all_goals simp

@[simp] theorem State.uplink_air (s : State) (owner : UnitId) (topic : Nat) (fields : List Byte) :
    (s.uplink owner topic fields).1.air = s.air := by
  unfold State.uplink
  repeat' split
  all_goals simp

@[simp] theorem State.uplink_meas (s : State) (owner : UnitId) (topic : Nat) (fields : List Byte) :
    (s.uplink owner topic fields).1.meas = s.meas := by
  unfold State.uplink
  repeat' split
  all_goals simp

@[simp] theorem State.uplink_svc (s : State) (owner : UnitId) (topic : Nat) (fields : List Byte) :
    (s.uplink owner topic fields).1.svc = s.svc := by
  unfold State.uplink
  repeat' split
  all_goals simp

@[simp] theorem State.uplink_calls (s : State) (owner : UnitId) (topic : Nat) (fields : List Byte) :
    (s.uplink owner topic fields).1.calls = s.calls := by
  unfold State.uplink
  repeat' split
  all_goals simp

@[simp] theorem State.uplink_text (s : State) (owner : UnitId) (topic : Nat) (fields : List Byte) :
    (s.uplink owner topic fields).1.text = s.text := by
  unfold State.uplink
  repeat' split
  all_goals simp

@[simp] theorem State.uplink_agenda (s : State) (owner : UnitId) (topic : Nat) (fields : List Byte) :
    (s.uplink owner topic fields).1.agenda = s.agenda := by
  unfold State.uplink
  repeat' split
  all_goals simp

@[simp] theorem State.uplink_awake (s : State) (owner : UnitId) (topic : Nat) (fields : List Byte) :
    (s.uplink owner topic fields).1.pag.isAwake = s.pag.isAwake := by
  unfold State.uplink
  repeat' split
  all_goals simp

@[simp] theorem State.releaseUplink_frame (s : State) :
    s.releaseUplink.cmd = s.cmd ∧ s.releaseUplink.air = s.air ∧ s.releaseUplink.meas = s.meas
      ∧ s.releaseUplink.svc = s.svc ∧ s.releaseUplink.calls = s.calls ∧ s.releaseUplink.text = s.text
      ∧ s.releaseUplink.agenda = s.agenda ∧ s.releaseUplink.pag.isAwake = s.pag.isAwake := by
  simp [State.releaseUplink]

@[simp] theorem State.discardUplink_frame (s : State) :
    s.discardUplink.line = s.line ∧ s.discardUplink.cmd = s.cmd ∧ s.discardUplink.air = s.air
      ∧ s.discardUplink.meas = s.meas ∧ s.discardUplink.svc = s.svc ∧ s.discardUplink.pag.sched = s.pag.sched
      ∧ s.discardUplink.calls = s.calls ∧ s.discardUplink.text = s.text ∧ s.discardUplink.agenda = s.agenda
      ∧ s.discardUplink.pag.isAwake = s.pag.isAwake := by
  simp [State.discardUplink]

@[simp] theorem State.modCell_frame (s : State) (k : CellKey) (f : Cell → Cell) :
    (s.modCell k f).line = s.line ∧ (s.modCell k f).cmd = s.cmd ∧ (s.modCell k f).air = s.air
      ∧ (s.modCell k f).meas.params = s.meas.params ∧ (s.modCell k f).svc = s.svc ∧ (s.modCell k f).ho = s.ho
      ∧ (s.modCell k f).pag.sched = s.pag.sched ∧ (s.modCell k f).calls = s.calls ∧ (s.modCell k f).text = s.text
      ∧ (s.modCell k f).agenda = s.agenda ∧ (s.modCell k f).pag.isAwake = s.pag.isAwake := by
  simp [State.modCell]

@[simp] theorem State.addCell_frame (s : State) (c : Cell) :
    (s.addCell c).line = s.line ∧ (s.addCell c).cmd = s.cmd ∧ (s.addCell c).air = s.air
      ∧ (s.addCell c).meas.params = s.meas.params ∧ (s.addCell c).svc = s.svc ∧ (s.addCell c).ho = s.ho
      ∧ (s.addCell c).pag.sched = s.pag.sched ∧ (s.addCell c).calls = s.calls ∧ (s.addCell c).text = s.text
      ∧ (s.addCell c).agenda = s.agenda ∧ (s.addCell c).pag.isAwake = s.pag.isAwake := by
  simp [State.addCell]

@[simp] theorem State.candidateLeft_frame (s : State) (k : CellKey) (why : LeaveReason) :
    (s.candidateLeft k why).line = s.line ∧ (s.candidateLeft k why).cmd = s.cmd ∧ (s.candidateLeft k why).air = s.air
      ∧ (s.candidateLeft k why).meas = s.meas ∧ (s.candidateLeft k why).svc.state = s.svc.state
      ∧ (s.candidateLeft k why).ho = s.ho ∧ (s.candidateLeft k why).pag = s.pag
      ∧ (s.candidateLeft k why).calls = s.calls ∧ (s.candidateLeft k why).text = s.text
      ∧ (s.candidateLeft k why).agenda = s.agenda := by
  simp [State.candidateLeft]

@[simp] theorem State.dropCell_frame (s : State) (k : CellKey) (why : LeaveReason) :
    (s.dropCell k why).cmd = s.cmd ∧ (s.dropCell k why).air = s.air ∧ (s.dropCell k why).meas.params = s.meas.params
      ∧ (s.dropCell k why).svc.state = s.svc.state ∧ (s.dropCell k why).pag.sched = s.pag.sched ∧ (s.dropCell k why).calls = s.calls
      ∧ (s.dropCell k why).text = s.text ∧ (s.dropCell k why).agenda = s.agenda ∧ (s.dropCell k why).pag.isAwake = s.pag.isAwake := by
  simp [State.dropCell]

@[simp] theorem State.admitListed_frame (s : State) (k : CellKey) (offset : Int) :
    (s.admitListed k offset).cmd = s.cmd ∧ (s.admitListed k offset).air = s.air
      ∧ (s.admitListed k offset).meas.params = s.meas.params ∧ (s.admitListed k offset).svc.state = s.svc.state
      ∧ (s.admitListed k offset).pag.sched = s.pag.sched ∧ (s.admitListed k offset).calls = s.calls
      ∧ (s.admitListed k offset).text = s.text ∧ (s.admitListed k offset).agenda = s.agenda
      ∧ (s.admitListed k offset).pag.isAwake = s.pag.isAwake := by
  unfold State.admitListed
  repeat' split
  all_goals simp

@[simp] theorem State.useSample_frame (s : State) (k : Nat) (arrival : Tick) (p : Sample) :
    (s.useSample k arrival p).cmd = s.cmd ∧ (s.useSample k arrival p).air = s.air
      ∧ (s.useSample k arrival p).meas.params = s.meas.params ∧ (s.useSample k arrival p).svc.state = s.svc.state
      ∧ (s.useSample k arrival p).pag.sched = s.pag.sched ∧ (s.useSample k arrival p).calls = s.calls
      ∧ (s.useSample k arrival p).text = s.text ∧ (s.useSample k arrival p).agenda = s.agenda
      ∧ (s.useSample k arrival p).pag.isAwake = s.pag.isAwake := by
  unfold State.useSample
  dsimp only
  repeat' split
  all_goals simp

@[simp] theorem State.penalise_frame (s : State) (k : CellKey) :
    (s.penalise k).line = s.line ∧ (s.penalise k).cmd = s.cmd ∧ (s.penalise k).air = s.air
      ∧ (s.penalise k).meas.params = s.meas.params ∧ (s.penalise k).svc = s.svc ∧ (s.penalise k).ho = s.ho
      ∧ (s.penalise k).pag.sched = s.pag.sched ∧ (s.penalise k).calls = s.calls ∧ (s.penalise k).text = s.text
      ∧ (s.penalise k).agenda = s.agenda ∧ (s.penalise k).pag.isAwake = s.pag.isAwake := by
  simp [State.penalise]

@[simp] theorem State.bar_frame (s : State) (k : CellKey) :
    (s.bar k).line = s.line ∧ (s.bar k).cmd = s.cmd ∧ (s.bar k).air = s.air ∧ (s.bar k).meas.params = s.meas.params
      ∧ (s.bar k).svc = s.svc ∧ (s.bar k).ho = s.ho ∧ (s.bar k).pag.sched = s.pag.sched ∧ (s.bar k).calls = s.calls
      ∧ (s.bar k).text = s.text ∧ (s.bar k).agenda = s.agenda ∧ (s.bar k).pag.isAwake = s.pag.isAwake := by
  simp [State.bar]

@[simp] theorem State.modRound_frame (s : State) (id : Nat) (f : Round → Round) :
    (s.modRound id f).line = s.line ∧ (s.modRound id f).cmd = s.cmd ∧ (s.modRound id f).air = s.air
      ∧ (s.modRound id f).meas.params = s.meas.params ∧ (s.modRound id f).svc = s.svc ∧ (s.modRound id f).ho = s.ho
      ∧ (s.modRound id f).pag.sched = s.pag.sched ∧ (s.modRound id f).calls = s.calls
      ∧ (s.modRound id f).text = s.text ∧ (s.modRound id f).agenda = s.agenda
      ∧ (s.modRound id f).pag.isAwake = s.pag.isAwake := by
  simp [State.modRound]

@[simp] theorem State.countMisses_cmd (s : State) (reported ks : List CellKey) :
    (s.countMisses reported ks).cmd = s.cmd := by
  induction ks generalizing s with
  | nil => rfl
  | cons k ks ih =>
    rw [State.countMisses, ih]
    split
    · rfl
    · repeat' split
      all_goals simp

@[simp] theorem State.countMisses_air (s : State) (reported ks : List CellKey) :
    (s.countMisses reported ks).air = s.air := by
  induction ks generalizing s with
  | nil => rfl
  | cons k ks ih =>
    rw [State.countMisses, ih]
    split
    · rfl
    · repeat' split
      all_goals simp

@[simp] theorem State.countMisses_params (s : State) (reported ks : List CellKey) :
    (s.countMisses reported ks).meas.params = s.meas.params := by
  induction ks generalizing s with
  | nil => rfl
  | cons k ks ih =>
    rw [State.countMisses, ih]
    split
    · rfl
    · repeat' split
      all_goals simp

@[simp] theorem State.countMisses_sstate (s : State) (reported ks : List CellKey) :
    (s.countMisses reported ks).svc.state = s.svc.state := by
  induction ks generalizing s with
  | nil => rfl
  | cons k ks ih =>
    rw [State.countMisses, ih]
    split
    · rfl
    · repeat' split
      all_goals simp

@[simp] theorem State.countMisses_sched (s : State) (reported ks : List CellKey) :
    (s.countMisses reported ks).pag.sched = s.pag.sched := by
  induction ks generalizing s with
  | nil => rfl
  | cons k ks ih =>
    rw [State.countMisses, ih]
    split
    · rfl
    · repeat' split
      all_goals simp

@[simp] theorem State.countMisses_calls (s : State) (reported ks : List CellKey) :
    (s.countMisses reported ks).calls = s.calls := by
  induction ks generalizing s with
  | nil => rfl
  | cons k ks ih =>
    rw [State.countMisses, ih]
    split
    · rfl
    · repeat' split
      all_goals simp

@[simp] theorem State.countMisses_text (s : State) (reported ks : List CellKey) :
    (s.countMisses reported ks).text = s.text := by
  induction ks generalizing s with
  | nil => rfl
  | cons k ks ih =>
    rw [State.countMisses, ih]
    split
    · rfl
    · repeat' split
      all_goals simp

@[simp] theorem State.countMisses_agenda (s : State) (reported ks : List CellKey) :
    (s.countMisses reported ks).agenda = s.agenda := by
  induction ks generalizing s with
  | nil => rfl
  | cons k ks ih =>
    rw [State.countMisses, ih]
    split
    · rfl
    · repeat' split
      all_goals simp

@[simp] theorem State.countMisses_awake (s : State) (reported ks : List CellKey) :
    (s.countMisses reported ks).pag.isAwake = s.pag.isAwake := by
  induction ks generalizing s with
  | nil => rfl
  | cons k ks ih =>
    rw [State.countMisses, ih]
    split
    · rfl
    · repeat' split
      all_goals simp

@[simp] theorem State.endRound_frame (s : State) (r : Round) (skip : Option SkipReason) :
    (s.endRound r skip).cmd = s.cmd ∧ (s.endRound r skip).air = s.air
      ∧ (s.endRound r skip).meas.params = s.meas.params ∧ (s.endRound r skip).svc.state = s.svc.state
      ∧ (s.endRound r skip).pag.sched = s.pag.sched ∧ (s.endRound r skip).calls = s.calls
      ∧ (s.endRound r skip).text = s.text ∧ (s.endRound r skip).pag.isAwake = s.pag.isAwake := by
  simp [State.endRound]

@[simp] theorem State.endRound_skip_svc (s : State) (r : Round) (k : SkipReason) :
    (s.endRound r (some k)).svc = s.svc := by
  simp [State.endRound]

@[simp] theorem State.addRound_frame (s : State) (id : Nat) (start stop : Tick) :
    (s.addRound id start stop).cmd = s.cmd ∧ (s.addRound id start stop).air = s.air
      ∧ (s.addRound id start stop).meas.params = s.meas.params ∧ (s.addRound id start stop).svc = s.svc
      ∧ (s.addRound id start stop).pag.sched = s.pag.sched ∧ (s.addRound id start stop).calls = s.calls
      ∧ (s.addRound id start stop).text = s.text ∧ (s.addRound id start stop).pag.isAwake = s.pag.isAwake := by
  unfold State.addRound
  split <;> simp

@[simp] theorem State.buildOrder_frame (s : State) (r : Round) :
    (s.buildOrder r).cmd = s.cmd ∧ (s.buildOrder r).air = s.air ∧ (s.buildOrder r).meas.params = s.meas.params
      ∧ (s.buildOrder r).svc = s.svc ∧ (s.buildOrder r).ho = s.ho ∧ (s.buildOrder r).calls = s.calls
      ∧ (s.buildOrder r).text = s.text ∧ (s.buildOrder r).agenda = s.agenda
      ∧ (s.buildOrder r).pag.isAwake = s.pag.isAwake := by
  simp [State.buildOrder]

@[simp] theorem State.roundReport_frame (s : State) (id : Nat) (rep : Report) :
    (s.roundReport id rep).cmd = s.cmd ∧ (s.roundReport id rep).air = s.air
      ∧ (s.roundReport id rep).meas.params = s.meas.params ∧ (s.roundReport id rep).svc.state = s.svc.state
      ∧ (s.roundReport id rep).calls = s.calls ∧ (s.roundReport id rep).text = s.text
      ∧ (s.roundReport id rep).pag.isAwake = s.pag.isAwake := by
  unfold State.roundReport
  repeat' split
  all_goals simp

@[simp] theorem State.release_frame (s : State) (owner : UnitId) (id : Nat) :
    (s.release owner id).cmd = s.cmd ∧ (s.release owner id).air.anchor = s.air.anchor
      ∧ (s.release owner id).meas.params = s.meas.params ∧ (s.release owner id).svc.state = s.svc.state
      ∧ (s.release owner id).calls = s.calls ∧ (s.release owner id).text = s.text
      ∧ (s.release owner id).pag.isAwake = s.pag.isAwake := by
  unfold State.release
  split <;> simp

@[simp] theorem State.releaseOpt_cmd (s : State) (owner : UnitId) (id : Option Nat) :
    (s.releaseOpt owner id).cmd = s.cmd := by
  cases id <;> simp [State.releaseOpt]

@[simp] theorem State.releaseOpt_anchor (s : State) (owner : UnitId) (id : Option Nat) :
    (s.releaseOpt owner id).air.anchor = s.air.anchor := by
  cases id <;> simp [State.releaseOpt]

@[simp] theorem State.releaseOpt_params (s : State) (owner : UnitId) (id : Option Nat) :
    (s.releaseOpt owner id).meas.params = s.meas.params := by
  cases id <;> simp [State.releaseOpt]

@[simp] theorem State.releaseOpt_svc (s : State) (owner : UnitId) (id : Option Nat) :
    (s.releaseOpt owner id).svc.state = s.svc.state := by
  cases id <;> simp [State.releaseOpt]

@[simp] theorem State.releaseOpt_calls (s : State) (owner : UnitId) (id : Option Nat) :
    (s.releaseOpt owner id).calls = s.calls := by
  cases id <;> simp [State.releaseOpt]

@[simp] theorem State.releaseOpt_text (s : State) (owner : UnitId) (id : Option Nat) :
    (s.releaseOpt owner id).text = s.text := by
  cases id <;> simp [State.releaseOpt]

@[simp] theorem State.releaseOpt_awake (s : State) (owner : UnitId) (id : Option Nat) :
    (s.releaseOpt owner id).pag.isAwake = s.pag.isAwake := by
  cases id <;> simp [State.releaseOpt]

@[simp] theorem State.releaseAll_frame (s : State) (owner : UnitId) (p : Window → Bool) :
    (s.releaseAll owner p).cmd = s.cmd ∧ (s.releaseAll owner p).air.anchor = s.air.anchor
      ∧ (s.releaseAll owner p).meas.params = s.meas.params ∧ (s.releaseAll owner p).svc.state = s.svc.state
      ∧ (s.releaseAll owner p).calls = s.calls ∧ (s.releaseAll owner p).text = s.text
      ∧ (s.releaseAll owner p).pag.isAwake = s.pag.isAwake := by
  simp [State.releaseAll]

@[simp] theorem State.calmBegin_frame (s : State) :
    s.calmBegin.line = s.line ∧ s.calmBegin.cmd = s.cmd ∧ s.calmBegin.air = s.air ∧ s.calmBegin.meas = s.meas
      ∧ s.calmBegin.svc.state = s.svc.state ∧ s.calmBegin.ho = s.ho ∧ s.calmBegin.pag.sched = s.pag.sched
      ∧ s.calmBegin.calls = s.calls ∧ s.calmBegin.text = s.text ∧ s.calmBegin.agenda = s.agenda
      ∧ s.calmBegin.pag.isAwake = s.pag.isAwake := by
  unfold State.calmBegin
  split <;> simp

@[simp] theorem State.calmCheck_frame (s : State) :
    s.calmCheck.line = s.line ∧ s.calmCheck.cmd = s.cmd ∧ s.calmCheck.air = s.air ∧ s.calmCheck.meas = s.meas
      ∧ s.calmCheck.svc.state = s.svc.state ∧ s.calmCheck.ho = s.ho ∧ s.calmCheck.pag.sched = s.pag.sched
      ∧ s.calmCheck.calls = s.calls ∧ s.calmCheck.text = s.text ∧ s.calmCheck.agenda = s.agenda
      ∧ s.calmCheck.pag.isAwake = s.pag.isAwake := by
  unfold State.calmCheck
  split <;> simp

@[simp] theorem State.setMobility_frame (s : State) (m : Mobility) :
    (s.setMobility m).air = s.air ∧ (s.setMobility m).meas = s.meas ∧ (s.setMobility m).svc.state = s.svc.state
      ∧ (s.setMobility m).ho = s.ho ∧ (s.setMobility m).calls = s.calls ∧ (s.setMobility m).text = s.text
      ∧ (s.setMobility m).agenda = s.agenda ∧ (s.setMobility m).pag.isAwake = s.pag.isAwake := by
  simp [State.setMobility]

@[simp] theorem State.enterRing_frame (s : State) (source : Option CellKey) (target : CellKey) (tick : Tick) :
    (s.enterRing source target tick).air = s.air ∧ (s.enterRing source target tick).meas = s.meas
      ∧ (s.enterRing source target tick).svc.state = s.svc.state ∧ (s.enterRing source target tick).ho = s.ho
      ∧ (s.enterRing source target tick).calls = s.calls ∧ (s.enterRing source target tick).text = s.text
      ∧ (s.enterRing source target tick).agenda = s.agenda
      ∧ (s.enterRing source target tick).pag.isAwake = s.pag.isAwake := by
  simp [State.enterRing]

@[simp] theorem State.missWatch_frame (s : State) (r : MissReason) :
    (s.missWatch r).air = s.air ∧ (s.missWatch r).meas = s.meas ∧ (s.missWatch r).svc = s.svc
      ∧ (s.missWatch r).ho = s.ho ∧ (s.missWatch r).calls = s.calls ∧ (s.missWatch r).text = s.text
      ∧ (s.missWatch r).agenda = s.agenda ∧ (s.missWatch r).pag.isAwake = s.pag.isAwake := by
  simp [State.missWatch]

@[simp] theorem State.addCycle_frame (s : State) (c : Cycle) :
    (s.addCycle c).line = s.line ∧ (s.addCycle c).cmd = s.cmd ∧ (s.addCycle c).air = s.air
      ∧ (s.addCycle c).meas = s.meas ∧ (s.addCycle c).svc = s.svc ∧ (s.addCycle c).ho = s.ho
      ∧ (s.addCycle c).calls = s.calls ∧ (s.addCycle c).text = s.text ∧ (s.addCycle c).agenda = s.agenda
      ∧ (s.addCycle c).pag.isAwake = s.pag.isAwake := by
  simp [State.addCycle]

@[simp] theorem State.setRounds_frame (s : State) (n : Nat) :
    (s.setRounds n).line = s.line ∧ (s.setRounds n).cmd = s.cmd ∧ (s.setRounds n).air = s.air
      ∧ (s.setRounds n).meas = s.meas ∧ (s.setRounds n).svc = s.svc ∧ (s.setRounds n).ho = s.ho
      ∧ (s.setRounds n).calls = s.calls ∧ (s.setRounds n).text = s.text ∧ (s.setRounds n).agenda = s.agenda
      ∧ (s.setRounds n).pag.isAwake = s.pag.isAwake := by
  simp [State.setRounds]

@[simp] theorem State.fullPlaced_frame (s : State) (id : Nat) :
    (s.fullPlaced id).line = s.line ∧ (s.fullPlaced id).cmd = s.cmd ∧ (s.fullPlaced id).air = s.air
      ∧ (s.fullPlaced id).meas = s.meas ∧ (s.fullPlaced id).svc = s.svc ∧ (s.fullPlaced id).ho = s.ho
      ∧ (s.fullPlaced id).calls = s.calls ∧ (s.fullPlaced id).text = s.text ∧ (s.fullPlaced id).agenda = s.agenda
      ∧ (s.fullPlaced id).pag.isAwake = s.pag.isAwake := by
  simp [State.fullPlaced]

@[simp] theorem State.cycleRoundPlaced_frame (s : State) (c : Cycle) (full : Bool) (id : Nat) (start stop : Tick) :
    (s.cycleRoundPlaced c full id start stop).cmd = s.cmd ∧ (s.cycleRoundPlaced c full id start stop).air = s.air
      ∧ (s.cycleRoundPlaced c full id start stop).meas.params = s.meas.params
      ∧ (s.cycleRoundPlaced c full id start stop).svc = s.svc ∧ (s.cycleRoundPlaced c full id start stop).calls = s.calls
      ∧ (s.cycleRoundPlaced c full id start stop).text = s.text
      ∧ (s.cycleRoundPlaced c full id start stop).pag.isAwake = s.pag.isAwake := by
  simp [State.cycleRoundPlaced]

@[simp] theorem State.planRound_frame (s : State) (c : Cycle) :
    (s.planRound c).cmd = s.cmd ∧ (s.planRound c).air.anchor = s.air.anchor
      ∧ (s.planRound c).meas.params = s.meas.params ∧ (s.planRound c).svc = s.svc ∧ (s.planRound c).calls = s.calls
      ∧ (s.planRound c).text = s.text ∧ (s.planRound c).pag.isAwake = s.pag.isAwake := by
  simp [State.planRound]

@[simp] theorem State.watchPlaced_frame (s : State) (c : Cycle) (id : Nat) :
    (s.watchPlaced c id).cmd = s.cmd ∧ (s.watchPlaced c id).air.anchor = s.air.anchor
      ∧ (s.watchPlaced c id).meas.params = s.meas.params ∧ (s.watchPlaced c id).svc = s.svc
      ∧ (s.watchPlaced c id).calls = s.calls ∧ (s.watchPlaced c id).text = s.text
      ∧ (s.watchPlaced c id).pag.isAwake = s.pag.isAwake := by
  simp [State.watchPlaced]

@[simp] theorem State.planCycle_frame (s : State) (t : Tick) :
    (s.planCycle t).air.anchor = s.air.anchor ∧ (s.planCycle t).meas.params = s.meas.params
      ∧ (s.planCycle t).svc = s.svc ∧ (s.planCycle t).calls = s.calls ∧ (s.planCycle t).text = s.text
      ∧ (s.planCycle t).pag.isAwake = s.pag.isAwake := by
  unfold State.planCycle
  split <;> simp

@[simp] theorem State.replan_frame (s : State) :
    s.replan.air.anchor = s.air.anchor ∧ s.replan.meas.params = s.meas.params ∧ s.replan.svc.state = s.svc.state
      ∧ s.replan.calls = s.calls ∧ s.replan.text = s.text ∧ s.replan.pag.isAwake = s.pag.isAwake := by
  simp [State.replan]

@[simp] theorem State.startSchedule_frame (s : State) (fromCamping : Bool) :
    (s.startSchedule fromCamping).air.anchor = s.air.anchor
      ∧ (s.startSchedule fromCamping).meas.params = s.meas.params ∧ (s.startSchedule fromCamping).svc.state = s.svc.state
      ∧ (s.startSchedule fromCamping).calls = s.calls ∧ (s.startSchedule fromCamping).text = s.text
      ∧ (s.startSchedule fromCamping).pag.isAwake = s.pag.isAwake := by
  simp [State.startSchedule]

@[simp] theorem State.stopSchedule_frame (s : State) :
    s.stopSchedule.line = s.line ∧ s.stopSchedule.cmd = s.cmd ∧ s.stopSchedule.air = s.air
      ∧ s.stopSchedule.meas = s.meas ∧ s.stopSchedule.svc = s.svc ∧ s.stopSchedule.ho = s.ho
      ∧ s.stopSchedule.calls = s.calls ∧ s.stopSchedule.text = s.text ∧ s.stopSchedule.pag.isAwake = s.pag.isAwake := by
  simp [State.stopSchedule]

@[simp] theorem State.pagingRelease_frame (s : State) :
    s.pagingRelease.cmd = s.cmd ∧ s.pagingRelease.air.anchor = s.air.anchor
      ∧ s.pagingRelease.meas.params = s.meas.params ∧ s.pagingRelease.svc.state = s.svc.state ∧ s.pagingRelease.calls = s.calls
      ∧ s.pagingRelease.text = s.text ∧ s.pagingRelease.pag.isAwake = s.pag.isAwake := by
  unfold State.pagingRelease
  dsimp only
  repeat' split
  all_goals simp

@[simp] theorem State.pagingOnService_frame (s : State) (old new : ServiceState) :
    (s.pagingOnService old new).air.anchor = s.air.anchor ∧ (s.pagingOnService old new).meas.params = s.meas.params
      ∧ (s.pagingOnService old new).svc.state = s.svc.state ∧ (s.pagingOnService old new).calls = s.calls
      ∧ (s.pagingOnService old new).text = s.text ∧ (s.pagingOnService old new).pag.isAwake = s.pag.isAwake := by
  simp [State.pagingOnService]

@[simp] theorem State.setAnchor_frame (s : State) (p : List Byte) (i : Nat) (arrival : Tick) :
    (s.setAnchor p i arrival).meas.params = s.meas.params ∧ (s.setAnchor p i arrival).svc = s.svc
      ∧ (s.setAnchor p i arrival).calls = s.calls ∧ (s.setAnchor p i arrival).text = s.text
      ∧ (s.setAnchor p i arrival).pag.isAwake = s.pag.isAwake := by
  simp [State.setAnchor]

@[simp] theorem State.setParams_frame (s : State) (p : Params) :
    (s.setParams p).air.anchor = s.air.anchor ∧ (s.setParams p).svc.state = s.svc.state
      ∧ (s.setParams p).calls = s.calls ∧ (s.setParams p).text = s.text
      ∧ (s.setParams p).pag.isAwake = s.pag.isAwake := by
  simp [State.setParams]

@[simp] theorem State.demoteServing_frame (s : State) :
    s.demoteServing.line = s.line ∧ s.demoteServing.cmd = s.cmd ∧ s.demoteServing.air = s.air
      ∧ s.demoteServing.meas.params = s.meas.params ∧ s.demoteServing.svc = s.svc ∧ s.demoteServing.ho = s.ho
      ∧ s.demoteServing.pag.sched = s.pag.sched ∧ s.demoteServing.calls = s.calls ∧ s.demoteServing.text = s.text
      ∧ s.demoteServing.agenda = s.agenda ∧ s.demoteServing.pag.isAwake = s.pag.isAwake := by
  simp [State.demoteServing]

@[simp] theorem State.makeServing_frame (s : State) (k : CellKey) :
    (s.makeServing k).air.anchor = s.air.anchor ∧ (s.makeServing k).svc.state = s.svc.state
      ∧ (s.makeServing k).calls = s.calls ∧ (s.makeServing k).text = s.text
      ∧ (s.makeServing k).pag.isAwake = s.pag.isAwake := by
  unfold State.makeServing
  repeat' split
  all_goals simp

@[simp] theorem State.handoverOnService_frame (s : State) (old new : ServiceState) :
    (s.handoverOnService old new).cmd = s.cmd ∧ (s.handoverOnService old new).air = s.air
      ∧ (s.handoverOnService old new).meas.params = s.meas.params ∧ (s.handoverOnService old new).svc = s.svc
      ∧ (s.handoverOnService old new).pag.sched = s.pag.sched ∧ (s.handoverOnService old new).calls = s.calls
      ∧ (s.handoverOnService old new).text = s.text ∧ (s.handoverOnService old new).agenda = s.agenda
      ∧ (s.handoverOnService old new).pag.isAwake = s.pag.isAwake := by
  simp [State.handoverOnService]

@[simp] theorem State.moveService_frame (s : State) (new : ServiceState) :
    (s.moveService new).meas.params = s.meas.params ∧ (s.moveService new).calls = s.calls
      ∧ (s.moveService new).text = s.text ∧ (s.moveService new).pag.isAwake = s.pag.isAwake := by
  simp [State.moveService]

@[simp] theorem State.reportService_frame (s : State) :
    s.reportService.air = s.air ∧ s.reportService.meas = s.meas ∧ s.reportService.svc.state = s.svc.state
      ∧ s.reportService.ho = s.ho ∧ s.reportService.calls = s.calls ∧ s.reportService.text = s.text
      ∧ s.reportService.agenda = s.agenda ∧ s.reportService.pag.isAwake = s.pag.isAwake := by
  unfold State.reportService
  split <;> simp

@[simp] theorem State.setService_frame (s : State) (new : ServiceState) :
    (s.setService new).meas.params = s.meas.params ∧ (s.setService new).calls = s.calls
      ∧ (s.setService new).text = s.text ∧ (s.setService new).pag.isAwake = s.pag.isAwake := by
  simp [State.setService]

@[simp] theorem State.modScan_frame (s : State) (f : Scan → Scan) :
    (s.modScan f).line = s.line ∧ (s.modScan f).cmd = s.cmd ∧ (s.modScan f).air = s.air
      ∧ (s.modScan f).meas = s.meas ∧ (s.modScan f).svc.state = s.svc.state ∧ (s.modScan f).ho = s.ho
      ∧ (s.modScan f).pag.sched = s.pag.sched ∧ (s.modScan f).calls = s.calls ∧ (s.modScan f).text = s.text
      ∧ (s.modScan f).agenda = s.agenda ∧ (s.modScan f).pag.isAwake = s.pag.isAwake := by
  simp [State.modScan]

@[simp] theorem State.scanPlaced_frame (s : State) (id : Nat) :
    (s.scanPlaced id).line = s.line ∧ (s.scanPlaced id).cmd = s.cmd ∧ (s.scanPlaced id).air = s.air
      ∧ (s.scanPlaced id).meas = s.meas ∧ (s.scanPlaced id).svc.state = s.svc.state ∧ (s.scanPlaced id).ho = s.ho
      ∧ (s.scanPlaced id).pag.sched = s.pag.sched ∧ (s.scanPlaced id).calls = s.calls ∧ (s.scanPlaced id).text = s.text
      ∧ (s.scanPlaced id).agenda = s.agenda ∧ (s.scanPlaced id).pag.isAwake = s.pag.isAwake := by
  simp [State.scanPlaced]

@[simp] theorem State.requestScan_frame (s : State) (earliest : Tick) :
    (s.requestScan earliest).cmd = s.cmd ∧ (s.requestScan earliest).air.anchor = s.air.anchor
      ∧ (s.requestScan earliest).meas = s.meas ∧ (s.requestScan earliest).svc.state = s.svc.state
      ∧ (s.requestScan earliest).ho = s.ho ∧ (s.requestScan earliest).calls = s.calls
      ∧ (s.requestScan earliest).text = s.text ∧ (s.requestScan earliest).pag.isAwake = s.pag.isAwake := by
  simp [State.requestScan]

@[simp] theorem State.enterScanning_frame (s : State) (loss : Bool) :
    (s.enterScanning loss).meas.params = s.meas.params ∧ (s.enterScanning loss).calls = s.calls
      ∧ (s.enterScanning loss).text = s.text ∧ (s.enterScanning loss).pag.isAwake = s.pag.isAwake := by
  simp [State.enterScanning]

@[simp] theorem State.doubleBackoff_frame (s : State) :
    s.doubleBackoff.line = s.line ∧ s.doubleBackoff.cmd = s.cmd ∧ s.doubleBackoff.air = s.air
      ∧ s.doubleBackoff.meas = s.meas ∧ s.doubleBackoff.svc.state = s.svc.state ∧ s.doubleBackoff.ho = s.ho
      ∧ s.doubleBackoff.pag.sched = s.pag.sched ∧ s.doubleBackoff.calls = s.calls ∧ s.doubleBackoff.text = s.text
      ∧ s.doubleBackoff.agenda = s.agenda ∧ s.doubleBackoff.pag.isAwake = s.pag.isAwake := by
  simp [State.doubleBackoff]

@[simp] theorem State.fruitless_frame (s : State) :
    s.fruitless.cmd = s.cmd ∧ s.fruitless.air.anchor = s.air.anchor ∧ s.fruitless.meas = s.meas
      ∧ s.fruitless.svc.state = s.svc.state ∧ s.fruitless.ho = s.ho ∧ s.fruitless.calls = s.calls
      ∧ s.fruitless.text = s.text ∧ s.fruitless.pag.isAwake = s.pag.isAwake := by
  simp [State.fruitless]

@[simp] theorem State.modCamp_frame (s : State) (f : Camp → Camp) :
    (s.modCamp f).line = s.line ∧ (s.modCamp f).cmd = s.cmd ∧ (s.modCamp f).air = s.air
      ∧ (s.modCamp f).meas = s.meas ∧ (s.modCamp f).svc.state = s.svc.state ∧ (s.modCamp f).ho = s.ho
      ∧ (s.modCamp f).pag.sched = s.pag.sched ∧ (s.modCamp f).calls = s.calls ∧ (s.modCamp f).text = s.text
      ∧ (s.modCamp f).agenda = s.agenda ∧ (s.modCamp f).pag.isAwake = s.pag.isAwake := by
  simp [State.modCamp]

@[simp] theorem State.campPlaced_frame (s : State) (id : Nat) :
    (s.campPlaced id).line = s.line ∧ (s.campPlaced id).cmd = s.cmd ∧ (s.campPlaced id).air = s.air
      ∧ (s.campPlaced id).meas = s.meas ∧ (s.campPlaced id).svc.state = s.svc.state ∧ (s.campPlaced id).ho = s.ho
      ∧ (s.campPlaced id).pag.sched = s.pag.sched ∧ (s.campPlaced id).calls = s.calls ∧ (s.campPlaced id).text = s.text
      ∧ (s.campPlaced id).agenda = s.agenda ∧ (s.campPlaced id).pag.isAwake = s.pag.isAwake := by
  simp [State.campPlaced]

@[simp] theorem State.requestCamp_frame (s : State) :
    s.requestCamp.cmd = s.cmd ∧ s.requestCamp.air.anchor = s.air.anchor ∧ s.requestCamp.meas = s.meas
      ∧ s.requestCamp.svc.state = s.svc.state ∧ s.requestCamp.ho = s.ho ∧ s.requestCamp.calls = s.calls
      ∧ s.requestCamp.text = s.text ∧ s.requestCamp.pag.isAwake = s.pag.isAwake := by
  simp [State.requestCamp]

@[simp] theorem State.beginCamp_frame (s : State) (target : CellKey) (purpose : CampPurpose) :
    (s.beginCamp target purpose).meas.params = s.meas.params ∧ (s.beginCamp target purpose).calls = s.calls
      ∧ (s.beginCamp target purpose).text = s.text ∧ (s.beginCamp target purpose).pag.isAwake = s.pag.isAwake := by
  simp [State.beginCamp]

@[simp] theorem State.campFailed_frame (s : State) (c : Camp) (penal : Bool) :
    (s.campFailed c penal).meas.params = s.meas.params ∧ (s.campFailed c penal).calls = s.calls
      ∧ (s.campFailed c penal).text = s.text ∧ (s.campFailed c penal).pag.isAwake = s.pag.isAwake := by
  simp [State.campFailed]

@[simp] theorem State.campNotRun_frame (s : State) (blocked : Option (Option Nat)) :
    (s.campNotRun blocked).meas.params = s.meas.params ∧ (s.campNotRun blocked).calls = s.calls
      ∧ (s.campNotRun blocked).text = s.text ∧ (s.campNotRun blocked).pag.isAwake = s.pag.isAwake := by
  unfold State.campNotRun
  split <;> simp

@[simp] theorem State.servingLost_frame (s : State) :
    s.servingLost.meas.params = s.meas.params ∧ s.servingLost.calls = s.calls ∧ s.servingLost.text = s.text
      ∧ s.servingLost.pag.isAwake = s.pag.isAwake := by
  unfold State.servingLost
  dsimp only
  repeat' split
  all_goals simp

@[simp] theorem State.reselect_frame (s : State) (rank : Option Int) :
    (s.reselect rank).meas.params = s.meas.params ∧ (s.reselect rank).calls = s.calls
      ∧ (s.reselect rank).text = s.text ∧ (s.reselect rank).pag.isAwake = s.pag.isAwake := by
  unfold State.reselect
  dsimp only
  repeat' split
  all_goals simp

@[simp] theorem State.evaluate_frame (s : State) :
    s.evaluate.meas.params = s.meas.params ∧ s.evaluate.calls = s.calls ∧ s.evaluate.text = s.text
      ∧ s.evaluate.pag.isAwake = s.pag.isAwake := by
  simp [State.evaluate]

@[simp] theorem State.modConn_frame (s : State) (f : Conn → Conn) :
    (s.modConn f).line = s.line ∧ (s.modConn f).cmd = s.cmd ∧ (s.modConn f).air = s.air
      ∧ (s.modConn f).meas = s.meas ∧ (s.modConn f).svc.state = s.svc.state ∧ (s.modConn f).ho = s.ho
      ∧ (s.modConn f).pag.sched = s.pag.sched ∧ (s.modConn f).calls = s.calls ∧ (s.modConn f).text = s.text
      ∧ (s.modConn f).agenda = s.agenda ∧ (s.modConn f).pag.isAwake = s.pag.isAwake := by
  simp [State.modConn]

@[simp] theorem State.modTraffic_frame (s : State) (f : Traffic → Traffic) :
    (s.modTraffic f).line = s.line ∧ (s.modTraffic f).cmd = s.cmd ∧ (s.modTraffic f).air = s.air
      ∧ (s.modTraffic f).meas = s.meas ∧ (s.modTraffic f).svc.state = s.svc.state ∧ (s.modTraffic f).ho = s.ho
      ∧ (s.modTraffic f).pag.sched = s.pag.sched ∧ (s.modTraffic f).calls = s.calls ∧ (s.modTraffic f).text = s.text
      ∧ (s.modTraffic f).agenda = s.agenda ∧ (s.modTraffic f).pag.isAwake = s.pag.isAwake := by
  simp [State.modTraffic]

@[simp] theorem State.linkPlaced_frame (s : State) (id : Nat) :
    (s.linkPlaced id).line = s.line ∧ (s.linkPlaced id).cmd = s.cmd ∧ (s.linkPlaced id).air = s.air
      ∧ (s.linkPlaced id).ho = s.ho ∧ (s.linkPlaced id).meas = s.meas ∧ (s.linkPlaced id).svc.state = s.svc.state
      ∧ (s.linkPlaced id).pag.sched = s.pag.sched ∧ (s.linkPlaced id).calls = s.calls ∧ (s.linkPlaced id).text = s.text
      ∧ (s.linkPlaced id).agenda = s.agenda ∧ (s.linkPlaced id).pag.isAwake = s.pag.isAwake := by
  simp [State.linkPlaced]

@[simp] theorem State.requestLink_frame (s : State) :
    s.requestLink.cmd = s.cmd ∧ s.requestLink.air.anchor = s.air.anchor ∧ s.requestLink.meas = s.meas
      ∧ s.requestLink.svc.state = s.svc.state ∧ s.requestLink.ho = s.ho ∧ s.requestLink.calls = s.calls
      ∧ s.requestLink.text = s.text ∧ s.requestLink.pag.isAwake = s.pag.isAwake := by
  simp [State.requestLink]

@[simp] theorem State.openConnection_frame (s : State) :
    s.openConnection.meas.params = s.meas.params ∧ s.openConnection.calls = s.calls ∧ s.openConnection.text = s.text
      ∧ s.openConnection.pag.isAwake = s.pag.isAwake := by
  simp [State.openConnection]

@[simp] theorem State.raiseNeed_frame (s : State) (n : Need) :
    (s.raiseNeed n).meas.params = s.meas.params ∧ (s.raiseNeed n).calls = s.calls ∧ (s.raiseNeed n).text = s.text
      ∧ (s.raiseNeed n).pag.isAwake = s.pag.isAwake := by
  simp [State.raiseNeed]

@[simp] theorem State.lowerNeed_frame (s : State) (n : Need) :
    (s.lowerNeed n).line = s.line ∧ (s.lowerNeed n).cmd = s.cmd ∧ (s.lowerNeed n).air = s.air
      ∧ (s.lowerNeed n).meas = s.meas ∧ (s.lowerNeed n).ho = s.ho ∧ (s.lowerNeed n).pag.sched = s.pag.sched
      ∧ (s.lowerNeed n).calls = s.calls ∧ (s.lowerNeed n).text = s.text ∧ (s.lowerNeed n).agenda = s.agenda
      ∧ (s.lowerNeed n).pag.isAwake = s.pag.isAwake := by
  simp [State.lowerNeed]

@[simp] theorem State.lowerPage_frame (s : State) :
    s.lowerPage.line = s.line ∧ s.lowerPage.cmd = s.cmd ∧ s.lowerPage.air = s.air ∧ s.lowerPage.meas = s.meas
      ∧ s.lowerPage.ho = s.ho ∧ s.lowerPage.pag.sched = s.pag.sched ∧ s.lowerPage.calls = s.calls
      ∧ s.lowerPage.text = s.text ∧ s.lowerPage.agenda = s.agenda ∧ s.lowerPage.pag.isAwake = s.pag.isAwake := by
  simp [State.lowerPage]

@[simp] theorem State.offerLinkReq_frame (s : State) :
    s.offerLinkReq.cmd = s.cmd ∧ s.offerLinkReq.air = s.air ∧ s.offerLinkReq.meas = s.meas
      ∧ s.offerLinkReq.svc.state = s.svc.state ∧ s.offerLinkReq.ho = s.ho ∧ s.offerLinkReq.calls = s.calls
      ∧ s.offerLinkReq.text = s.text ∧ s.offerLinkReq.agenda = s.agenda ∧ s.offerLinkReq.pag.isAwake = s.pag.isAwake := by
  simp [State.offerLinkReq]

@[simp] theorem State.requestChunk_frame (s : State) (earliest : Tick) :
    (s.requestChunk earliest).cmd = s.cmd ∧ (s.requestChunk earliest).air.anchor = s.air.anchor
      ∧ (s.requestChunk earliest).meas = s.meas ∧ (s.requestChunk earliest).svc.state = s.svc.state
      ∧ (s.requestChunk earliest).ho = s.ho ∧ (s.requestChunk earliest).calls = s.calls
      ∧ (s.requestChunk earliest).text = s.text ∧ (s.requestChunk earliest).pag.isAwake = s.pag.isAwake := by
  simp [State.requestChunk]

@[simp] theorem State.tryChunk_frame (s : State) :
    s.tryChunk.cmd = s.cmd ∧ s.tryChunk.air.anchor = s.air.anchor ∧ s.tryChunk.meas = s.meas
      ∧ s.tryChunk.svc.state = s.svc.state ∧ s.tryChunk.ho = s.ho ∧ s.tryChunk.calls = s.calls
      ∧ s.tryChunk.text = s.text ∧ s.tryChunk.pag.isAwake = s.pag.isAwake := by
  unfold State.tryChunk
  repeat' split
  all_goals simp

@[simp] theorem State.chunkActive_frame (s : State) :
    s.chunkActive.line = s.line ∧ s.chunkActive.cmd = s.cmd ∧ s.chunkActive.air = s.air
      ∧ s.chunkActive.meas = s.meas ∧ s.chunkActive.svc.state = s.svc.state ∧ s.chunkActive.ho = s.ho
      ∧ s.chunkActive.pag.sched = s.pag.sched ∧ s.chunkActive.calls = s.calls ∧ s.chunkActive.text = s.text
      ∧ s.chunkActive.agenda = s.agenda ∧ s.chunkActive.pag.isAwake = s.pag.isAwake := by
  simp [State.chunkActive]

@[simp] theorem State.absenceRuns_frame (s : State) :
    s.absenceRuns.line = s.line ∧ s.absenceRuns.cmd = s.cmd ∧ s.absenceRuns.air = s.air
      ∧ s.absenceRuns.meas = s.meas ∧ s.absenceRuns.svc.state = s.svc.state ∧ s.absenceRuns.ho = s.ho
      ∧ s.absenceRuns.pag.sched = s.pag.sched ∧ s.absenceRuns.calls = s.calls ∧ s.absenceRuns.text = s.text
      ∧ s.absenceRuns.agenda = s.agenda ∧ s.absenceRuns.pag.isAwake = s.pag.isAwake := by
  simp [State.absenceRuns]

@[simp] theorem State.linkUp_frame (s : State) :
    s.linkUp.meas.params = s.meas.params ∧ s.linkUp.calls = s.calls ∧ s.linkUp.text = s.text
      ∧ s.linkUp.pag.isAwake = s.pag.isAwake := by
  simp [State.linkUp]

@[simp] theorem State.enterSwitching_frame (s : State) :
    s.enterSwitching.meas.params = s.meas.params ∧ s.enterSwitching.calls = s.calls ∧ s.enterSwitching.text = s.text
      ∧ s.enterSwitching.pag.isAwake = s.pag.isAwake := by
  simp [State.enterSwitching]

@[simp] theorem State.resumeLinked_frame (s : State) :
    s.resumeLinked.meas.params = s.meas.params ∧ s.resumeLinked.calls = s.calls ∧ s.resumeLinked.text = s.text
      ∧ s.resumeLinked.pag.isAwake = s.pag.isAwake := by
  simp [State.resumeLinked]

@[simp] theorem State.releaseTraffic_frame (s : State) :
    s.releaseTraffic.cmd = s.cmd ∧ s.releaseTraffic.air.anchor = s.air.anchor
      ∧ s.releaseTraffic.meas.params = s.meas.params ∧ s.releaseTraffic.svc.state = s.svc.state
      ∧ s.releaseTraffic.calls = s.calls ∧ s.releaseTraffic.text = s.text
      ∧ s.releaseTraffic.pag.isAwake = s.pag.isAwake := by
  simp [State.releaseTraffic]

@[simp] theorem State.idleClose_frame (s : State) :
    s.idleClose.meas.params = s.meas.params ∧ s.idleClose.calls = s.calls ∧ s.idleClose.text = s.text
      ∧ s.idleClose.pag.isAwake = s.pag.isAwake := by
  simp [State.idleClose]

@[simp] theorem State.modCall_frame (s : State) (h : Nat) (f : Call → Call) :
    (s.modCall h f).line = s.line ∧ (s.modCall h f).cmd = s.cmd ∧ (s.modCall h f).air = s.air
      ∧ (s.modCall h f).meas = s.meas ∧ (s.modCall h f).svc = s.svc ∧ (s.modCall h f).ho = s.ho
      ∧ (s.modCall h f).pag.sched = s.pag.sched ∧ (s.modCall h f).text = s.text ∧ (s.modCall h f).agenda = s.agenda
      ∧ (s.modCall h f).pag.isAwake = s.pag.isAwake := by
  simp [State.modCall]

@[simp] theorem State.enterCall_frame (s : State) (h : Nat) (st : CallState) :
    (s.enterCall h st).line = s.line ∧ (s.enterCall h st).cmd = s.cmd ∧ (s.enterCall h st).air = s.air
      ∧ (s.enterCall h st).meas = s.meas ∧ (s.enterCall h st).svc = s.svc ∧ (s.enterCall h st).ho = s.ho
      ∧ (s.enterCall h st).pag.sched = s.pag.sched ∧ (s.enterCall h st).text = s.text
      ∧ (s.enterCall h st).agenda = s.agenda ∧ (s.enterCall h st).pag.isAwake = s.pag.isAwake := by
  simp [State.enterCall]

@[simp] theorem State.raiseCallState_frame (s : State) (h : Nat) (old new : CallState) :
    (s.raiseCallState h old new).air = s.air ∧ (s.raiseCallState h old new).meas = s.meas
      ∧ (s.raiseCallState h old new).svc = s.svc ∧ (s.raiseCallState h old new).ho = s.ho
      ∧ (s.raiseCallState h old new).calls = s.calls ∧ (s.raiseCallState h old new).text = s.text
      ∧ (s.raiseCallState h old new).agenda = s.agenda ∧ (s.raiseCallState h old new).pag.isAwake = s.pag.isAwake := by
  simp [State.raiseCallState]

@[simp] theorem State.announce_air (s : State) (was : List Call) : (s.announce was).air = s.air := by
  refine State.foldl_air _ _ _ fun t c => ?_
  repeat' split
  all_goals simp

@[simp] theorem State.announce_meas (s : State) (was : List Call) : (s.announce was).meas = s.meas := by
  refine State.foldl_meas _ _ _ fun t c => ?_
  repeat' split
  all_goals simp

@[simp] theorem State.announce_svc (s : State) (was : List Call) : (s.announce was).svc = s.svc := by
  refine State.foldl_svc _ _ _ fun t c => ?_
  repeat' split
  all_goals simp

@[simp] theorem State.announce_ho (s : State) (was : List Call) : (s.announce was).ho = s.ho := by
  refine State.foldl_ho _ _ _ fun t c => ?_
  repeat' split
  all_goals simp

@[simp] theorem State.announce_calls (s : State) (was : List Call) : (s.announce was).calls = s.calls := by
  refine State.foldl_calls _ _ _ fun t c => ?_
  repeat' split
  all_goals simp

@[simp] theorem State.announce_text (s : State) (was : List Call) : (s.announce was).text = s.text := by
  refine State.foldl_text _ _ _ fun t c => ?_
  repeat' split
  all_goals simp

@[simp] theorem State.announce_agenda (s : State) (was : List Call) : (s.announce was).agenda = s.agenda := by
  refine State.foldl_agenda _ _ _ fun t c => ?_
  repeat' split
  all_goals simp

@[simp] theorem State.announce_awake (s : State) (was : List Call) : (s.announce was).pag.isAwake = s.pag.isAwake := by
  refine State.foldl_awake _ _ _ fun t c => ?_
  repeat' split
  all_goals simp

@[simp] theorem State.raiseCleared_frame (s : State) (c : Call) (cause : CallCause) :
    (s.raiseCleared c cause).air = s.air ∧ (s.raiseCleared c cause).meas = s.meas
      ∧ (s.raiseCleared c cause).svc = s.svc ∧ (s.raiseCleared c cause).ho = s.ho
      ∧ (s.raiseCleared c cause).calls = s.calls ∧ (s.raiseCleared c cause).text = s.text
      ∧ (s.raiseCleared c cause).agenda = s.agenda ∧ (s.raiseCleared c cause).pag.isAwake = s.pag.isAwake := by
  simp [State.raiseCleared]

@[simp] theorem State.addCall_frame (s : State) (c : Call) :
    (s.addCall c).meas.params = s.meas.params ∧ (s.addCall c).text = s.text
      ∧ (s.addCall c).pag.isAwake = s.pag.isAwake := by
  simp [State.addCall]

@[simp] theorem State.lowerCallNeed_frame (s : State) :
    s.lowerCallNeed.line = s.line ∧ s.lowerCallNeed.cmd = s.cmd ∧ s.lowerCallNeed.air = s.air
      ∧ s.lowerCallNeed.meas = s.meas ∧ s.lowerCallNeed.ho = s.ho ∧ s.lowerCallNeed.pag.sched = s.pag.sched
      ∧ s.lowerCallNeed.calls = s.calls ∧ s.lowerCallNeed.text = s.text ∧ s.lowerCallNeed.agenda = s.agenda
      ∧ s.lowerCallNeed.pag.isAwake = s.pag.isAwake := by
  simp [State.lowerCallNeed]

@[simp] theorem State.removeCall_frame (s : State) (c : Call) :
    (s.removeCall c).line = s.line ∧ (s.removeCall c).cmd = s.cmd ∧ (s.removeCall c).air = s.air
      ∧ (s.removeCall c).meas = s.meas ∧ (s.removeCall c).svc = s.svc ∧ (s.removeCall c).ho = s.ho
      ∧ (s.removeCall c).pag = s.pag ∧ (s.removeCall c).text = s.text ∧ (s.removeCall c).agenda = s.agenda := by
  simp [State.removeCall]

@[simp] theorem State.announceCleared_frame (s : State) (gone : List ClearedCall) :
    (s.announceCleared gone).air = s.air ∧ (s.announceCleared gone).meas = s.meas
      ∧ (s.announceCleared gone).ho = s.ho ∧ (s.announceCleared gone).text = s.text
      ∧ (s.announceCleared gone).agenda = s.agenda ∧ (s.announceCleared gone).pag.isAwake = s.pag.isAwake := by
  unfold State.announceCleared
  split <;> simp

@[simp] theorem State.clearCall_frame (s : State) (c : Call) (cause : CallCause) :
    (s.clearCall c cause).air = s.air ∧ (s.clearCall c cause).meas = s.meas ∧ (s.clearCall c cause).ho = s.ho
      ∧ (s.clearCall c cause).text = s.text ∧ (s.clearCall c cause).agenda = s.agenda
      ∧ (s.clearCall c cause).pag.isAwake = s.pag.isAwake := by
  simp [State.clearCall]

@[simp] theorem State.signal_cmd (s : State) (k : Signal) (c : Call) (cause : Option CallCause) :
    (s.signal k c cause).1.cmd = s.cmd := State.uplink_cmd _ _ _ _

@[simp] theorem State.signal_air (s : State) (k : Signal) (c : Call) (cause : Option CallCause) :
    (s.signal k c cause).1.air = s.air := State.uplink_air _ _ _ _

@[simp] theorem State.signal_meas (s : State) (k : Signal) (c : Call) (cause : Option CallCause) :
    (s.signal k c cause).1.meas = s.meas := State.uplink_meas _ _ _ _

@[simp] theorem State.signal_svc (s : State) (k : Signal) (c : Call) (cause : Option CallCause) :
    (s.signal k c cause).1.svc = s.svc := State.uplink_svc _ _ _ _

@[simp] theorem State.signal_calls (s : State) (k : Signal) (c : Call) (cause : Option CallCause) :
    (s.signal k c cause).1.calls = s.calls := State.uplink_calls _ _ _ _

@[simp] theorem State.signal_text (s : State) (k : Signal) (c : Call) (cause : Option CallCause) :
    (s.signal k c cause).1.text = s.text := State.uplink_text _ _ _ _

@[simp] theorem State.signal_agenda (s : State) (k : Signal) (c : Call) (cause : Option CallCause) :
    (s.signal k c cause).1.agenda = s.agenda := State.uplink_agenda _ _ _ _

@[simp] theorem State.signal_awake (s : State) (k : Signal) (c : Call) (cause : Option CallCause) :
    (s.signal k c cause).1.pag.isAwake = s.pag.isAwake := State.uplink_awake _ _ _ _

@[simp] theorem State.signal'_cmd (s : State) (k : Signal) (c : Call) (cause : Option CallCause) :
    (s.signal' k c cause).cmd = s.cmd := State.uplink_cmd _ _ _ _

@[simp] theorem State.signal'_air (s : State) (k : Signal) (c : Call) (cause : Option CallCause) :
    (s.signal' k c cause).air = s.air := State.uplink_air _ _ _ _

@[simp] theorem State.signal'_meas (s : State) (k : Signal) (c : Call) (cause : Option CallCause) :
    (s.signal' k c cause).meas = s.meas := State.uplink_meas _ _ _ _

@[simp] theorem State.signal'_svc (s : State) (k : Signal) (c : Call) (cause : Option CallCause) :
    (s.signal' k c cause).svc = s.svc := State.uplink_svc _ _ _ _

@[simp] theorem State.signal'_calls (s : State) (k : Signal) (c : Call) (cause : Option CallCause) :
    (s.signal' k c cause).calls = s.calls := State.uplink_calls _ _ _ _

@[simp] theorem State.signal'_text (s : State) (k : Signal) (c : Call) (cause : Option CallCause) :
    (s.signal' k c cause).text = s.text := State.uplink_text _ _ _ _

@[simp] theorem State.signal'_agenda (s : State) (k : Signal) (c : Call) (cause : Option CallCause) :
    (s.signal' k c cause).agenda = s.agenda := State.uplink_agenda _ _ _ _

@[simp] theorem State.signal'_awake (s : State) (k : Signal) (c : Call) (cause : Option CallCause) :
    (s.signal' k c cause).pag.isAwake = s.pag.isAwake := State.uplink_awake _ _ _ _

@[simp] theorem State.releaseCall_frame (s : State) (c : Call) (cause : CallCause) :
    (s.releaseCall c cause).cmd = s.cmd ∧ (s.releaseCall c cause).air = s.air
      ∧ (s.releaseCall c cause).meas = s.meas ∧ (s.releaseCall c cause).svc = s.svc
      ∧ (s.releaseCall c cause).text = s.text ∧ (s.releaseCall c cause).agenda = s.agenda
      ∧ (s.releaseCall c cause).pag.isAwake = s.pag.isAwake := by
  simp [State.releaseCall]

@[simp] theorem State.leavePair_frame (s : State) (h : Nat) :
    (s.leavePair h).line = s.line ∧ (s.leavePair h).cmd = s.cmd ∧ (s.leavePair h).air = s.air
      ∧ (s.leavePair h).meas = s.meas ∧ (s.leavePair h).svc = s.svc ∧ (s.leavePair h).ho = s.ho
      ∧ (s.leavePair h).pag.sched = s.pag.sched ∧ (s.leavePair h).text = s.text ∧ (s.leavePair h).agenda = s.agenda
      ∧ (s.leavePair h).pag.isAwake = s.pag.isAwake := by
  simp [State.leavePair]

@[simp] theorem State.clearDeferred_frame (s : State) :
    s.clearDeferred.line = s.line ∧ s.clearDeferred.cmd = s.cmd ∧ s.clearDeferred.air = s.air
      ∧ s.clearDeferred.meas = s.meas ∧ s.clearDeferred.svc = s.svc ∧ s.clearDeferred.ho = s.ho
      ∧ s.clearDeferred.pag.sched = s.pag.sched ∧ s.clearDeferred.text = s.text ∧ s.clearDeferred.agenda = s.agenda
      ∧ s.clearDeferred.pag.isAwake = s.pag.isAwake := by
  simp [State.clearDeferred]

@[simp] theorem State.proceedDeferred_frame (s : State) :
    s.proceedDeferred.1.air = s.air ∧ s.proceedDeferred.1.meas = s.meas ∧ s.proceedDeferred.1.text = s.text
      ∧ s.proceedDeferred.1.agenda = s.agenda ∧ s.proceedDeferred.1.pag.isAwake = s.pag.isAwake := by
  unfold State.proceedDeferred
  split
  · simp
  · dsimp only
    split <;> simp

@[simp] theorem State.settleStep_frame (s : State) (c : Call) :
    (s.settleStep c).1.air = s.air ∧ (s.settleStep c).1.meas = s.meas ∧ (s.settleStep c).1.text = s.text
      ∧ (s.settleStep c).1.agenda = s.agenda ∧ (s.settleStep c).1.pag.isAwake = s.pag.isAwake := by
  unfold State.settleStep
  dsimp only
  repeat' split
  all_goals simp

@[simp] theorem State.sendSetups_frame (s : State) :
    s.sendSetups.air = s.air ∧ s.sendSetups.meas = s.meas ∧ s.sendSetups.svc = s.svc ∧ s.sendSetups.text = s.text
      ∧ s.sendSetups.agenda = s.agenda ∧ s.sendSetups.pag.isAwake = s.pag.isAwake := by
  simp [State.sendSetups]

@[simp] theorem State.callRadioLost_frame (s : State) :
    s.callRadioLost.air = s.air ∧ s.callRadioLost.meas = s.meas ∧ s.callRadioLost.ho = s.ho
      ∧ s.callRadioLost.text = s.text ∧ s.callRadioLost.agenda = s.agenda
      ∧ s.callRadioLost.pag.isAwake = s.pag.isAwake := by
  simp [State.callRadioLost]

@[simp] theorem State.callNoAccess_frame (s : State) :
    s.callNoAccess.air = s.air ∧ s.callNoAccess.meas = s.meas ∧ s.callNoAccess.ho = s.ho
      ∧ s.callNoAccess.text = s.text ∧ s.callNoAccess.agenda = s.agenda ∧ s.callNoAccess.pag.isAwake = s.pag.isAwake := by
  simp [State.callNoAccess]

@[simp] theorem State.callHoldTimers_frame (s : State) :
    s.callHoldTimers.line = s.line ∧ s.callHoldTimers.cmd = s.cmd ∧ s.callHoldTimers.air = s.air
      ∧ s.callHoldTimers.meas = s.meas ∧ s.callHoldTimers.svc = s.svc ∧ s.callHoldTimers.ho = s.ho
      ∧ s.callHoldTimers.pag.sched = s.pag.sched ∧ s.callHoldTimers.text = s.text
      ∧ s.callHoldTimers.agenda = s.agenda ∧ s.callHoldTimers.pag.isAwake = s.pag.isAwake := by
  simp [State.callHoldTimers]

@[simp] theorem State.callResumeTimers_frame (s : State) :
    s.callResumeTimers.air = s.air ∧ s.callResumeTimers.meas = s.meas ∧ s.callResumeTimers.svc = s.svc
      ∧ s.callResumeTimers.text = s.text ∧ s.callResumeTimers.agenda = s.agenda
      ∧ s.callResumeTimers.pag.isAwake = s.pag.isAwake := by
  simp [State.callResumeTimers]

@[simp] theorem State.moveExchange_frame (s : State) (e : Exchange) :
    (s.moveExchange e).meas.params = s.meas.params ∧ (s.moveExchange e).calls = s.calls
      ∧ (s.moveExchange e).pag.isAwake = s.pag.isAwake := by
  simp [State.moveExchange]

@[simp] theorem State.sendAvail_frame (s : State) :
    s.sendAvail.meas.params = s.meas.params ∧ s.sendAvail.calls = s.calls ∧ s.sendAvail.pag.isAwake = s.pag.isAwake := by
  simp [State.sendAvail]

@[simp] theorem State.dueOrOwed_frame (s : State) :
    s.dueOrOwed.meas.params = s.meas.params ∧ s.dueOrOwed.calls = s.calls ∧ s.dueOrOwed.pag.isAwake = s.pag.isAwake := by
  simp [State.dueOrOwed]

@[simp] theorem State.testAvail_frame (s : State) :
    s.testAvail.meas.params = s.meas.params ∧ s.testAvail.calls = s.calls ∧ s.testAvail.pag.isAwake = s.pag.isAwake := by
  unfold State.testAvail
  split <;> simp

@[simp] theorem State.toRetry_frame (s : State) :
    s.toRetry.meas.params = s.meas.params ∧ s.toRetry.calls = s.calls ∧ s.toRetry.pag.isAwake = s.pag.isAwake := by
  simp [State.toRetry]

@[simp] theorem State.availFailed_frame (s : State) :
    s.availFailed.meas.params = s.meas.params ∧ s.availFailed.calls = s.calls
      ∧ s.availFailed.pag.isAwake = s.pag.isAwake := by
  simp [State.availFailed]

@[simp] theorem State.toHost_frame (s : State) (cls topic : Nat) (payload : List Byte) :
    (s.toHost cls topic payload).cmd = s.cmd ∧ (s.toHost cls topic payload).air = s.air
      ∧ (s.toHost cls topic payload).meas = s.meas ∧ (s.toHost cls topic payload).svc = s.svc
      ∧ (s.toHost cls topic payload).ho = s.ho ∧ (s.toHost cls topic payload).calls = s.calls
      ∧ (s.toHost cls topic payload).text = s.text ∧ (s.toHost cls topic payload).agenda = s.agenda
      ∧ (s.toHost cls topic payload).pag.isAwake = s.pag.isAwake := by
  simp [State.toHost]

@[simp] theorem State.readRecord_line (s : State) (ref : Nat) (r : StoredText) (offset : Nat) :
    (s.readRecord ref r offset).1.line = s.line := rfl

@[simp] theorem State.readRecord_cmd (s : State) (ref : Nat) (r : StoredText) (offset : Nat) :
    (s.readRecord ref r offset).1.cmd = s.cmd := rfl

@[simp] theorem State.readRecord_air (s : State) (ref : Nat) (r : StoredText) (offset : Nat) :
    (s.readRecord ref r offset).1.air = s.air := rfl

@[simp] theorem State.readRecord_meas (s : State) (ref : Nat) (r : StoredText) (offset : Nat) :
    (s.readRecord ref r offset).1.meas = s.meas := rfl

@[simp] theorem State.readRecord_svc (s : State) (ref : Nat) (r : StoredText) (offset : Nat) :
    (s.readRecord ref r offset).1.svc = s.svc := rfl

@[simp] theorem State.readRecord_ho (s : State) (ref : Nat) (r : StoredText) (offset : Nat) :
    (s.readRecord ref r offset).1.ho = s.ho := rfl

@[simp] theorem State.readRecord_sched (s : State) (ref : Nat) (r : StoredText) (offset : Nat) :
    (s.readRecord ref r offset).1.pag.sched = s.pag.sched := rfl

@[simp] theorem State.readRecord_calls (s : State) (ref : Nat) (r : StoredText) (offset : Nat) :
    (s.readRecord ref r offset).1.calls = s.calls := rfl

@[simp] theorem State.readRecord_agenda (s : State) (ref : Nat) (r : StoredText) (offset : Nat) :
    (s.readRecord ref r offset).1.agenda = s.agenda := rfl

@[simp] theorem State.readRecord_awake (s : State) (ref : Nat) (r : StoredText) (offset : Nat) :
    (s.readRecord ref r offset).1.pag.isAwake = s.pag.isAwake := rfl

@[simp] theorem State.readNext_line (s : State) (ref : Nat) (r : StoredText) (offset : Nat) :
    (s.readNext ref r offset).1.line = s.line := rfl

@[simp] theorem State.readNext_cmd (s : State) (ref : Nat) (r : StoredText) (offset : Nat) :
    (s.readNext ref r offset).1.cmd = s.cmd := rfl

@[simp] theorem State.readNext_air (s : State) (ref : Nat) (r : StoredText) (offset : Nat) :
    (s.readNext ref r offset).1.air = s.air := rfl

@[simp] theorem State.readNext_meas (s : State) (ref : Nat) (r : StoredText) (offset : Nat) :
    (s.readNext ref r offset).1.meas = s.meas := rfl

@[simp] theorem State.readNext_svc (s : State) (ref : Nat) (r : StoredText) (offset : Nat) :
    (s.readNext ref r offset).1.svc = s.svc := rfl

@[simp] theorem State.readNext_ho (s : State) (ref : Nat) (r : StoredText) (offset : Nat) :
    (s.readNext ref r offset).1.ho = s.ho := rfl

@[simp] theorem State.readNext_sched (s : State) (ref : Nat) (r : StoredText) (offset : Nat) :
    (s.readNext ref r offset).1.pag.sched = s.pag.sched := rfl

@[simp] theorem State.readNext_calls (s : State) (ref : Nat) (r : StoredText) (offset : Nat) :
    (s.readNext ref r offset).1.calls = s.calls := rfl

@[simp] theorem State.readNext_agenda (s : State) (ref : Nat) (r : StoredText) (offset : Nat) :
    (s.readNext ref r offset).1.agenda = s.agenda := rfl

@[simp] theorem State.readNext_awake (s : State) (ref : Nat) (r : StoredText) (offset : Nat) :
    (s.readNext ref r offset).1.pag.isAwake = s.pag.isAwake := rfl

@[simp] theorem State.servePending_air (s : State) :
    s.servePending.air = s.air := by
  unfold State.servePending
  dsimp only
  repeat' split
  all_goals simp

@[simp] theorem State.servePending_meas (s : State) :
    s.servePending.meas = s.meas := by
  unfold State.servePending
  dsimp only
  repeat' split
  all_goals simp

@[simp] theorem State.servePending_svc (s : State) :
    s.servePending.svc = s.svc := by
  unfold State.servePending
  dsimp only
  repeat' split
  all_goals simp

@[simp] theorem State.servePending_ho (s : State) :
    s.servePending.ho = s.ho := by
  unfold State.servePending
  dsimp only
  repeat' split
  all_goals simp

@[simp] theorem State.servePending_calls (s : State) :
    s.servePending.calls = s.calls := by
  unfold State.servePending
  dsimp only
  repeat' split
  all_goals simp

@[simp] theorem State.servePending_agenda (s : State) :
    s.servePending.agenda = s.agenda := by
  unfold State.servePending
  dsimp only
  repeat' split
  all_goals simp

@[simp] theorem State.servePending_awake (s : State) :
    s.servePending.pag.isAwake = s.pag.isAwake := by
  unfold State.servePending
  dsimp only
  repeat' split
  all_goals simp

@[simp] theorem State.testHalf_frame (s : State) :
    s.testHalf.air = s.air ∧ s.testHalf.meas = s.meas ∧ s.testHalf.svc = s.svc ∧ s.testHalf.ho = s.ho
      ∧ s.testHalf.calls = s.calls ∧ s.testHalf.agenda = s.agenda ∧ s.testHalf.pag.isAwake = s.pag.isAwake := by
  simp [State.testHalf]

@[simp] theorem State.rearmHalf_frame (s : State) :
    s.rearmHalf.line = s.line ∧ s.rearmHalf.cmd = s.cmd ∧ s.rearmHalf.air = s.air ∧ s.rearmHalf.meas = s.meas
      ∧ s.rearmHalf.svc = s.svc ∧ s.rearmHalf.ho = s.ho ∧ s.rearmHalf.pag.sched = s.pag.sched
      ∧ s.rearmHalf.calls = s.calls ∧ s.rearmHalf.agenda = s.agenda ∧ s.rearmHalf.pag.isAwake = s.pag.isAwake := by
  simp [State.rearmHalf]

@[simp] theorem State.commit_frame (s : State) (a : Assembly) :
    (s.commit a).meas.params = s.meas.params ∧ (s.commit a).pag.isAwake = s.pag.isAwake := by
  unfold State.commit
  dsimp only
  repeat' split
  all_goals simp

@[simp] theorem State.modSending_frame (s : State) (f : OutText → OutText) :
    (s.modSending f).line = s.line ∧ (s.modSending f).cmd = s.cmd ∧ (s.modSending f).air = s.air
      ∧ (s.modSending f).meas = s.meas ∧ (s.modSending f).svc = s.svc ∧ (s.modSending f).ho = s.ho
      ∧ (s.modSending f).pag.sched = s.pag.sched ∧ (s.modSending f).calls = s.calls
      ∧ (s.modSending f).agenda = s.agenda ∧ (s.modSending f).pag.isAwake = s.pag.isAwake := by
  simp [State.modSending]

@[simp] theorem State.sendSegment_frame (s : State) (j : Nat) (resent : Bool) :
    (s.sendSegment j resent).cmd = s.cmd ∧ (s.sendSegment j resent).air = s.air
      ∧ (s.sendSegment j resent).meas = s.meas ∧ (s.sendSegment j resent).svc = s.svc
      ∧ (s.sendSegment j resent).calls = s.calls ∧ (s.sendSegment j resent).agenda = s.agenda
      ∧ (s.sendSegment j resent).pag.isAwake = s.pag.isAwake := by
  unfold State.sendSegment
  dsimp only
  repeat' split
  all_goals simp

@[simp] theorem State.startSending_frame (s : State) :
    s.startSending.cmd = s.cmd ∧ s.startSending.air = s.air ∧ s.startSending.meas = s.meas
      ∧ s.startSending.svc = s.svc ∧ s.startSending.calls = s.calls ∧ s.startSending.agenda = s.agenda
      ∧ s.startSending.pag.isAwake = s.pag.isAwake := by
  simp [State.startSending]

@[simp] theorem State.afterOutbound_frame (s : State) :
    s.afterOutbound.cmd = s.cmd ∧ s.afterOutbound.air = s.air ∧ s.afterOutbound.meas = s.meas
      ∧ s.afterOutbound.calls = s.calls ∧ s.afterOutbound.agenda = s.agenda
      ∧ s.afterOutbound.pag.isAwake = s.pag.isAwake := by
  simp [State.afterOutbound]

@[simp] theorem State.dropSending_frame (s : State) :
    s.dropSending.cmd = s.cmd ∧ s.dropSending.air = s.air ∧ s.dropSending.meas = s.meas
      ∧ s.dropSending.calls = s.calls ∧ s.dropSending.agenda = s.agenda ∧ s.dropSending.pag.isAwake = s.pag.isAwake := by
  simp [State.dropSending]

@[simp] theorem State.raiseFailed_frame (s : State) (ref cause code : Nat) :
    (s.raiseFailed ref cause code).air = s.air ∧ (s.raiseFailed ref cause code).meas = s.meas
      ∧ (s.raiseFailed ref cause code).svc = s.svc ∧ (s.raiseFailed ref cause code).ho = s.ho
      ∧ (s.raiseFailed ref cause code).calls = s.calls ∧ (s.raiseFailed ref cause code).text = s.text
      ∧ (s.raiseFailed ref cause code).agenda = s.agenda
      ∧ (s.raiseFailed ref cause code).pag.isAwake = s.pag.isAwake := by
  simp [State.raiseFailed]

@[simp] theorem State.textUp_frame (s : State) :
    s.textUp.meas.params = s.meas.params ∧ s.textUp.calls = s.calls ∧ s.textUp.pag.isAwake = s.pag.isAwake := by
  simp [State.textUp]

@[simp] theorem State.failOutbound_frame (s : State) (p : OutText → Bool) (cause : Nat) :
    (s.failOutbound p cause).air = s.air ∧ (s.failOutbound p cause).meas = s.meas
      ∧ (s.failOutbound p cause).ho = s.ho ∧ (s.failOutbound p cause).calls = s.calls
      ∧ (s.failOutbound p cause).agenda = s.agenda ∧ (s.failOutbound p cause).pag.isAwake = s.pag.isAwake := by
  simp [State.failOutbound]

@[simp] theorem State.textRadioLost_frame (s : State) :
    s.textRadioLost.meas.params = s.meas.params ∧ s.textRadioLost.calls = s.calls
      ∧ s.textRadioLost.pag.isAwake = s.pag.isAwake := by
  simp [State.textRadioLost]

@[simp] theorem State.textNoAccess_frame (s : State) :
    s.textNoAccess.meas.params = s.meas.params ∧ s.textNoAccess.calls = s.calls
      ∧ s.textNoAccess.pag.isAwake = s.pag.isAwake := by
  simp [State.textNoAccess]

@[simp] theorem State.textHoldTimers_frame (s : State) :
    s.textHoldTimers.line = s.line ∧ s.textHoldTimers.cmd = s.cmd ∧ s.textHoldTimers.air = s.air
      ∧ s.textHoldTimers.meas = s.meas ∧ s.textHoldTimers.svc = s.svc ∧ s.textHoldTimers.ho = s.ho
      ∧ s.textHoldTimers.pag.sched = s.pag.sched ∧ s.textHoldTimers.calls = s.calls
      ∧ s.textHoldTimers.agenda = s.agenda ∧ s.textHoldTimers.pag.isAwake = s.pag.isAwake := by
  simp [State.textHoldTimers]

@[simp] theorem State.textResumeTimers_frame (s : State) :
    s.textResumeTimers.cmd = s.cmd ∧ s.textResumeTimers.air = s.air ∧ s.textResumeTimers.meas = s.meas
      ∧ s.textResumeTimers.svc = s.svc ∧ s.textResumeTimers.calls = s.calls ∧ s.textResumeTimers.agenda = s.agenda
      ∧ s.textResumeTimers.pag.isAwake = s.pag.isAwake := by
  simp [State.textResumeTimers]

@[simp] theorem State.resumeTimers_frame (s : State) :
    s.resumeTimers.air = s.air ∧ s.resumeTimers.meas = s.meas ∧ s.resumeTimers.svc = s.svc
      ∧ s.resumeTimers.agenda = s.agenda ∧ s.resumeTimers.pag.isAwake = s.pag.isAwake := by
  simp [State.resumeTimers]

@[simp] theorem State.radioLost_frame (s : State) :
    s.radioLost.meas.params = s.meas.params ∧ s.radioLost.pag.isAwake = s.pag.isAwake := by
  simp [State.radioLost]

@[simp] theorem State.connectionLost_frame (s : State) :
    s.connectionLost.meas.params = s.meas.params ∧ s.connectionLost.pag.isAwake = s.pag.isAwake := by
  simp [State.connectionLost]

@[simp] theorem State.linkSucceeded_frame (s : State) :
    s.linkSucceeded.meas.params = s.meas.params ∧ s.linkSucceeded.pag.isAwake = s.pag.isAwake := by
  simp [State.linkSucceeded]

@[simp] theorem State.openingRefused_frame (s : State) (c : Conn) :
    (s.openingRefused c).meas.params = s.meas.params ∧ (s.openingRefused c).pag.isAwake = s.pag.isAwake := by
  simp [State.openingRefused]

@[simp] theorem State.linkFailed_frame (s : State) (blocked : Option (Option Nat)) :
    (s.linkFailed blocked).meas.params = s.meas.params ∧ (s.linkFailed blocked).pag.isAwake = s.pag.isAwake := by
  simp [State.linkFailed]

@[simp] theorem State.offerReport_frame (s : State) :
    s.offerReport.cmd = s.cmd ∧ s.offerReport.air = s.air ∧ s.offerReport.meas = s.meas ∧ s.offerReport.svc = s.svc
      ∧ s.offerReport.calls = s.calls ∧ s.offerReport.text = s.text ∧ s.offerReport.agenda = s.agenda
      ∧ s.offerReport.pag.isAwake = s.pag.isAwake := by
  simp [State.offerReport]

@[simp] theorem State.reportDue_frame (s : State) :
    s.reportDue.cmd = s.cmd ∧ s.reportDue.air = s.air ∧ s.reportDue.meas = s.meas ∧ s.reportDue.svc = s.svc
      ∧ s.reportDue.calls = s.calls ∧ s.reportDue.text = s.text ∧ s.reportDue.agenda = s.agenda
      ∧ s.reportDue.pag.isAwake = s.pag.isAwake := by
  simp [State.reportDue]

@[simp] theorem State.connectedEvaluation_frame (s : State) :
    s.connectedEvaluation.cmd = s.cmd ∧ s.connectedEvaluation.air = s.air
      ∧ s.connectedEvaluation.meas.params = s.meas.params ∧ s.connectedEvaluation.svc = s.svc
      ∧ s.connectedEvaluation.calls = s.calls ∧ s.connectedEvaluation.text = s.text
      ∧ s.connectedEvaluation.agenda = s.agenda ∧ s.connectedEvaluation.pag.isAwake = s.pag.isAwake := by
  unfold State.connectedEvaluation
  split <;> simp

@[simp] theorem State.modSwitch_frame (s : State) (f : Switch → Switch) :
    (s.modSwitch f).line = s.line ∧ (s.modSwitch f).cmd = s.cmd ∧ (s.modSwitch f).air = s.air
      ∧ (s.modSwitch f).meas = s.meas ∧ (s.modSwitch f).svc = s.svc ∧ (s.modSwitch f).pag.sched = s.pag.sched
      ∧ (s.modSwitch f).calls = s.calls ∧ (s.modSwitch f).text = s.text ∧ (s.modSwitch f).agenda = s.agenda
      ∧ (s.modSwitch f).pag.isAwake = s.pag.isAwake := by
  simp [State.modSwitch]

@[simp] theorem State.dropSwitch_frame (s : State) :
    s.dropSwitch.line = s.line ∧ s.dropSwitch.cmd = s.cmd ∧ s.dropSwitch.air = s.air ∧ s.dropSwitch.meas = s.meas
      ∧ s.dropSwitch.svc = s.svc ∧ s.dropSwitch.pag.sched = s.pag.sched ∧ s.dropSwitch.calls = s.calls
      ∧ s.dropSwitch.text = s.text ∧ s.dropSwitch.agenda = s.agenda ∧ s.dropSwitch.pag.isAwake = s.pag.isAwake := by
  simp [State.dropSwitch]

@[simp] theorem State.switchBlocked_frame (s : State) (c : Switch) :
    (s.switchBlocked c).meas.params = s.meas.params ∧ (s.switchBlocked c).pag.isAwake = s.pag.isAwake := by
  simp [State.switchBlocked]

@[simp] theorem State.returnFailed_frame (s : State) (c : Switch) :
    (s.returnFailed c).meas.params = s.meas.params ∧ (s.returnFailed c).pag.isAwake = s.pag.isAwake := by
  simp [State.returnFailed]

@[simp] theorem State.switchPlaced_frame (s : State) (id : Nat) :
    (s.switchPlaced id).line = s.line ∧ (s.switchPlaced id).cmd = s.cmd ∧ (s.switchPlaced id).air = s.air
      ∧ (s.switchPlaced id).meas = s.meas ∧ (s.switchPlaced id).svc = s.svc
      ∧ (s.switchPlaced id).pag.sched = s.pag.sched ∧ (s.switchPlaced id).calls = s.calls ∧ (s.switchPlaced id).text = s.text
      ∧ (s.switchPlaced id).agenda = s.agenda ∧ (s.switchPlaced id).pag.isAwake = s.pag.isAwake := by
  simp [State.switchPlaced]

@[simp] theorem State.requestSwitch_awake (s : State) (c : Switch) : (s.requestSwitch c).pag.isAwake = s.pag.isAwake := by
  unfold State.requestSwitch
  rw [State.ask_awake]
  · simp
  · intro t b
    split <;> simp

@[simp] theorem State.switchFailed_awake (s : State) (c : Switch) (cause : SwitchCause) :
    (s.switchFailed c cause).pag.isAwake = s.pag.isAwake := by
  simp [State.switchFailed]

@[simp] theorem State.phaseFailed_awake (s : State) (c : Switch) :
    (s.phaseFailed c).pag.isAwake = s.pag.isAwake := by
  unfold State.phaseFailed
  split <;> simp

@[simp] theorem State.offerSwitchReq_frame (s : State) (c : Switch) (id : Nat) :
    (s.offerSwitchReq c id).cmd = s.cmd ∧ (s.offerSwitchReq c id).air = s.air
      ∧ (s.offerSwitchReq c id).meas = s.meas ∧ (s.offerSwitchReq c id).svc = s.svc
      ∧ (s.offerSwitchReq c id).calls = s.calls ∧ (s.offerSwitchReq c id).text = s.text
      ∧ (s.offerSwitchReq c id).agenda = s.agenda ∧ (s.offerSwitchReq c id).pag.isAwake = s.pag.isAwake := by
  simp [State.offerSwitchReq]

@[simp] theorem State.switchOutcome_awake (s : State) (c : Switch) :
    (s.switchOutcome c).pag.isAwake = s.pag.isAwake := by
  unfold State.switchOutcome
  split <;> simp

@[simp] theorem State.switchReport_awake (s : State) (id : Nat) (r : Report) :
    (s.switchReport id r).pag.isAwake = s.pag.isAwake := by
  unfold State.switchReport
  repeat' split
  all_goals simp

@[simp] theorem State.switchTold_awake (s : State) (serial : Nat) (sent : Bool) :
    (s.switchTold serial sent).pag.isAwake = s.pag.isAwake := by
  unfold State.switchTold
  split <;> simp

@[simp] theorem State.switchSucceeded_frame (s : State) (c : Switch) (p : List Byte) (arrival : Tick) :
    (s.switchSucceeded c p arrival).pag.isAwake = s.pag.isAwake := by
  simp [State.switchSucceeded]

@[simp] theorem State.returnSucceeded_frame (s : State) (c : Switch) (p : List Byte) (arrival : Tick) :
    (s.returnSucceeded c p arrival).meas.params = s.meas.params
      ∧ (s.returnSucceeded c p arrival).pag.isAwake = s.pag.isAwake := by
  simp [State.returnSucceeded]

@[simp] theorem State.abandonSwitch_frame (s : State) :
    s.abandonSwitch.cmd = s.cmd ∧ s.abandonSwitch.air.anchor = s.air.anchor
      ∧ s.abandonSwitch.meas.params = s.meas.params ∧ s.abandonSwitch.svc.state = s.svc.state ∧ s.abandonSwitch.calls = s.calls
      ∧ s.abandonSwitch.text = s.text ∧ s.abandonSwitch.pag.isAwake = s.pag.isAwake := by
  unfold State.abandonSwitch
  split <;> simp

@[simp] theorem State.scanAgain_frame (s : State) (c : Scan) :
    (s.scanAgain c).cmd = s.cmd ∧ (s.scanAgain c).air.anchor = s.air.anchor ∧ (s.scanAgain c).meas = s.meas
      ∧ (s.scanAgain c).svc.state = s.svc.state ∧ (s.scanAgain c).ho = s.ho ∧ (s.scanAgain c).calls = s.calls
      ∧ (s.scanAgain c).text = s.text ∧ (s.scanAgain c).pag.isAwake = s.pag.isAwake := by
  simp [State.scanAgain]

@[simp] theorem State.scanReport_frame (s : State) (id : Nat) (r : Report) :
    (s.scanReport id r).cmd = s.cmd ∧ (s.scanReport id r).air.anchor = s.air.anchor
      ∧ (s.scanReport id r).meas = s.meas ∧ (s.scanReport id r).svc.state = s.svc.state
      ∧ (s.scanReport id r).ho = s.ho ∧ (s.scanReport id r).calls = s.calls ∧ (s.scanReport id r).text = s.text
      ∧ (s.scanReport id r).pag.isAwake = s.pag.isAwake := by
  unfold State.scanReport
  repeat' split
  all_goals simp

@[simp] theorem State.campReport_frame (s : State) (c : Camp) (r : Report) :
    (s.campReport c r).meas.params = s.meas.params ∧ (s.campReport c r).calls = s.calls
      ∧ (s.campReport c r).text = s.text ∧ (s.campReport c r).pag.isAwake = s.pag.isAwake := by
  unfold State.campReport
  split <;> simp

@[simp] theorem State.linkReport_frame (s : State) (r : Report) :
    (s.linkReport r).meas.params = s.meas.params ∧ (s.linkReport r).pag.isAwake = s.pag.isAwake := by
  unfold State.linkReport
  split <;> simp

@[simp] theorem State.accessReport_frame (s : State) (id : Nat) (r : Report) :
    (s.accessReport id r).meas.params = s.meas.params ∧ (s.accessReport id r).pag.isAwake = s.pag.isAwake := by
  unfold State.accessReport
  split <;> simp

@[simp] theorem State.trafficReport_frame (s : State) (r : Report) :
    (s.trafficReport r).cmd = s.cmd ∧ (s.trafficReport r).air.anchor = s.air.anchor
      ∧ (s.trafficReport r).meas = s.meas ∧ (s.trafficReport r).svc.state = s.svc.state
      ∧ (s.trafficReport r).ho = s.ho ∧ (s.trafficReport r).calls = s.calls ∧ (s.trafficReport r).text = s.text
      ∧ (s.trafficReport r).pag.isAwake = s.pag.isAwake := by
  unfold State.trafficReport
  split <;> simp

@[simp] theorem State.modCycle_frame (s : State) (p : Cycle → Bool) (f : Cycle → Cycle) :
    (s.modCycle p f).line = s.line ∧ (s.modCycle p f).cmd = s.cmd ∧ (s.modCycle p f).air = s.air
      ∧ (s.modCycle p f).meas = s.meas ∧ (s.modCycle p f).svc = s.svc ∧ (s.modCycle p f).ho = s.ho
      ∧ (s.modCycle p f).calls = s.calls ∧ (s.modCycle p f).text = s.text ∧ (s.modCycle p f).agenda = s.agenda
      ∧ (s.modCycle p f).pag.isAwake = s.pag.isAwake := by
  simp [State.modCycle]

@[simp] theorem State.dropOver_frame (s : State) :
    s.dropOver.line = s.line ∧ s.dropOver.cmd = s.cmd ∧ s.dropOver.air = s.air ∧ s.dropOver.meas = s.meas
      ∧ s.dropOver.svc = s.svc ∧ s.dropOver.ho = s.ho ∧ s.dropOver.calls = s.calls ∧ s.dropOver.text = s.text
      ∧ s.dropOver.agenda = s.agenda ∧ s.dropOver.pag.isAwake = s.pag.isAwake := by
  simp [State.dropOver]

@[simp] theorem State.watchMissed_frame (s : State) (id : Nat) (r : MissReason) :
    (s.watchMissed id r).air = s.air ∧ (s.watchMissed id r).meas = s.meas ∧ (s.watchMissed id r).svc = s.svc
      ∧ (s.watchMissed id r).ho = s.ho ∧ (s.watchMissed id r).calls = s.calls ∧ (s.watchMissed id r).text = s.text
      ∧ (s.watchMissed id r).agenda = s.agenda ∧ (s.watchMissed id r).pag.isAwake = s.pag.isAwake := by
  simp [State.watchMissed]

@[simp] theorem State.watchReport_frame (s : State) (id : Nat) (r : Report) :
    (s.watchReport id r).air = s.air ∧ (s.watchReport id r).meas = s.meas ∧ (s.watchReport id r).svc = s.svc
      ∧ (s.watchReport id r).ho = s.ho ∧ (s.watchReport id r).calls = s.calls ∧ (s.watchReport id r).text = s.text
      ∧ (s.watchReport id r).agenda = s.agenda ∧ (s.watchReport id r).pag.isAwake = s.pag.isAwake := by
  unfold State.watchReport
  repeat' split
  all_goals simp

@[simp] theorem State.pagingMeasureReport_frame (s : State) (id : Nat) (r : Report) :
    (s.pagingMeasureReport id r).line = s.line ∧ (s.pagingMeasureReport id r).cmd = s.cmd
      ∧ (s.pagingMeasureReport id r).air = s.air ∧ (s.pagingMeasureReport id r).meas = s.meas
      ∧ (s.pagingMeasureReport id r).svc = s.svc ∧ (s.pagingMeasureReport id r).ho = s.ho
      ∧ (s.pagingMeasureReport id r).calls = s.calls ∧ (s.pagingMeasureReport id r).text = s.text
      ∧ (s.pagingMeasureReport id r).agenda = s.agenda ∧ (s.pagingMeasureReport id r).pag.isAwake = s.pag.isAwake := by
  unfold State.pagingMeasureReport
  split <;> simp

@[simp] theorem State.modInfo_frame (s : State) (f : Info → Info) :
    (s.modInfo f).line = s.line ∧ (s.modInfo f).cmd = s.cmd ∧ (s.modInfo f).air = s.air
      ∧ (s.modInfo f).meas = s.meas ∧ (s.modInfo f).svc = s.svc ∧ (s.modInfo f).ho = s.ho
      ∧ (s.modInfo f).calls = s.calls ∧ (s.modInfo f).text = s.text ∧ (s.modInfo f).agenda = s.agenda
      ∧ (s.modInfo f).pag.isAwake = s.pag.isAwake := by
  simp [State.modInfo]

@[simp] theorem State.infoPlaced_frame (s : State) (id : Nat) :
    (s.infoPlaced id).line = s.line ∧ (s.infoPlaced id).cmd = s.cmd ∧ (s.infoPlaced id).air = s.air
      ∧ (s.infoPlaced id).ho = s.ho ∧ (s.infoPlaced id).meas = s.meas ∧ (s.infoPlaced id).svc = s.svc
      ∧ (s.infoPlaced id).calls = s.calls ∧ (s.infoPlaced id).text = s.text
      ∧ (s.infoPlaced id).agenda = s.agenda ∧ (s.infoPlaced id).pag.isAwake = s.pag.isAwake := by
  simp [State.infoPlaced]

@[simp] theorem State.requestInfo_cmd (s : State) : s.requestInfo.cmd = s.cmd := by
  unfold State.requestInfo
  rw [State.ask_cmd] <;> intros <;> simp

@[simp] theorem State.requestInfo_anchor (s : State) : s.requestInfo.air.anchor = s.air.anchor := by
  unfold State.requestInfo
  rw [State.ask_anchor] <;> intros <;> simp

@[simp] theorem State.requestInfo_meas (s : State) : s.requestInfo.meas = s.meas := by
  unfold State.requestInfo
  rw [State.ask_meas] <;> intros <;> simp

@[simp] theorem State.requestInfo_svc (s : State) : s.requestInfo.svc = s.svc := by
  unfold State.requestInfo
  rw [State.ask_svc] <;> intros <;> simp

@[simp] theorem State.requestInfo_ho (s : State) : s.requestInfo.ho = s.ho := by
  unfold State.requestInfo
  rw [State.ask_ho] <;> intros <;> rfl

@[simp] theorem State.requestInfo_calls (s : State) : s.requestInfo.calls = s.calls := by
  unfold State.requestInfo
  rw [State.ask_calls] <;> intros <;> simp

@[simp] theorem State.requestInfo_text (s : State) : s.requestInfo.text = s.text := by
  unfold State.requestInfo
  rw [State.ask_text] <;> intros <;> simp

@[simp] theorem State.requestInfo_awake (s : State) : s.requestInfo.pag.isAwake = s.pag.isAwake := by
  unfold State.requestInfo
  rw [State.ask_awake] <;> intros <;> simp

@[simp] theorem State.infoReport_frame (s : State) (id : Nat) (r : Report) :
    (s.infoReport id r).cmd = s.cmd ∧ (s.infoReport id r).air.anchor = s.air.anchor
      ∧ (s.infoReport id r).meas = s.meas ∧ (s.infoReport id r).svc = s.svc ∧ (s.infoReport id r).ho = s.ho
      ∧ (s.infoReport id r).calls = s.calls ∧ (s.infoReport id r).text = s.text
      ∧ (s.infoReport id r).pag.isAwake = s.pag.isAwake := by
  unfold State.infoReport
  repeat' split
  all_goals simp

@[simp] theorem State.unitReport_awake (s : State) (owner : UnitId) (kind : WinKind) (id : Nat) (r : Report) :
    (s.unitReport owner kind id r).pag.isAwake = s.pag.isAwake := by
  unfold State.unitReport
  split <;> simp

@[simp] theorem State.takeReport_awake (s : State) (owner : UnitId) (kind : WinKind) (id : Nat) (r : Report) :
    (s.takeReport owner kind id r).pag.isAwake = s.pag.isAwake := by
  simp [State.takeReport]

@[simp] theorem State.requestSent_frame (s : State) (topic serial : Nat) :
    (s.requestSent topic serial).line = s.line ∧ (s.requestSent topic serial).cmd = s.cmd
      ∧ (s.requestSent topic serial).air = s.air ∧ (s.requestSent topic serial).meas.params = s.meas.params
      ∧ (s.requestSent topic serial).svc.state = s.svc.state ∧ (s.requestSent topic serial).ho = s.ho
      ∧ (s.requestSent topic serial).calls = s.calls ∧ (s.requestSent topic serial).text = s.text
      ∧ (s.requestSent topic serial).agenda = s.agenda ∧ (s.requestSent topic serial).pag.isAwake = s.pag.isAwake := by
  unfold State.requestSent
  split <;> simp

@[simp] theorem State.reportGone_frame (s : State) (serial : Nat) :
    (s.reportGone serial).line = s.line ∧ (s.reportGone serial).cmd = s.cmd ∧ (s.reportGone serial).air = s.air
      ∧ (s.reportGone serial).meas = s.meas ∧ (s.reportGone serial).svc = s.svc
      ∧ (s.reportGone serial).pag.sched = s.pag.sched ∧ (s.reportGone serial).calls = s.calls
      ∧ (s.reportGone serial).text = s.text ∧ (s.reportGone serial).agenda = s.agenda
      ∧ (s.reportGone serial).pag.isAwake = s.pag.isAwake := by
  simp [State.reportGone]

@[simp] theorem State.told_awake (s : State) (sent : Bool) (e : TxEntry) (tail : Tick) :
    (s.told sent e tail).pag.isAwake = s.pag.isAwake := by
  unfold State.told
  split <;> simp

@[simp] theorem State.closeCheck_frame (s : State) :
    s.closeCheck.meas.params = s.meas.params ∧ s.closeCheck.calls = s.calls ∧ s.closeCheck.text = s.text
      ∧ s.closeCheck.pag.isAwake = s.pag.isAwake := by
  unfold State.closeCheck
  split <;> simp

@[simp] theorem State.refreshWake_frame (s : State) :
    s.refreshWake.line = s.line ∧ s.refreshWake.cmd = s.cmd ∧ s.refreshWake.air = s.air
      ∧ s.refreshWake.meas = s.meas ∧ s.refreshWake.svc = s.svc ∧ s.refreshWake.ho = s.ho
      ∧ s.refreshWake.calls = s.calls ∧ s.refreshWake.text = s.text ∧ s.refreshWake.agenda = s.agenda
      ∧ s.refreshWake.pag.isAwake = s.pag.isAwake := by
  simp [State.refreshWake]

/-! ### The work handed on -/

@[simp] theorem State.confirmPlaced_frame (s : State) (id : Nat) (start stop : Tick) :
    (s.confirmPlaced id start stop).cmd = s.cmd ∧ (s.confirmPlaced id start stop).air = s.air
      ∧ (s.confirmPlaced id start stop).meas.params = s.meas.params
      ∧ (s.confirmPlaced id start stop).svc.state = s.svc.state ∧ (s.confirmPlaced id start stop).calls = s.calls
      ∧ (s.confirmPlaced id start stop).text = s.text
      ∧ (s.confirmPlaced id start stop).pag.isAwake = s.pag.isAwake := by
  simp [State.confirmPlaced]

@[simp] theorem State.confirmRound_frame (s : State) :
    s.confirmRound.meas.params = s.meas.params ∧ s.confirmRound.calls = s.calls ∧ s.confirmRound.text = s.text
      ∧ s.confirmRound.pag.isAwake = s.pag.isAwake := by
  simp [State.confirmRound]

/-- What the judging of scan candidates comes to (R104). -/
theorem State.judgeScan_cases (s : State) (mayConfirm : Bool) :
    (∃ k, s.judgeScan mayConfirm = State.beginCamp { s with svc := { s.svc with scan := none } } k .scan)
      ∨ s.judgeScan mayConfirm = s.confirmRound ∨ s.judgeScan mayConfirm = s.fruitless := by
  unfold State.judgeScan
  extract_lets p cs pass best
  generalize best = b
  cases b with
  | some c => exact Or.inl ⟨c.key, rfl⟩
  | none =>
    generalize (mayConfirm && cs.any (fun c => c.neighbour && c.strong p && c.samples < 2)) = q
    cases q
    · exact Or.inr (Or.inr rfl)
    · exact Or.inr (Or.inl rfl)

@[simp] theorem State.judgeScan_frame (s : State) (mayConfirm : Bool) :
    (s.judgeScan mayConfirm).meas.params = s.meas.params ∧ (s.judgeScan mayConfirm).calls = s.calls
      ∧ (s.judgeScan mayConfirm).text = s.text ∧ (s.judgeScan mayConfirm).pag.isAwake = s.pag.isAwake := by
  rcases s.judgeScan_cases mayConfirm with ⟨k, e⟩ | e | e <;> rw [e] <;> simp

/-- What the end of a round comes to for the service controller (R105, R109). -/
theorem State.roundDone_cases (s : State) (id : Nat) (skip : Option SkipReason) :
    s.roundDone id skip = s ∨ s.roundDone id skip = s.evaluate
      ∨ ∃ f : Scan → Scan, s.roundDone id skip = (s.modScan f).judgeScan false ∨ s.roundDone id skip = (s.modScan f).fruitless
        ∨ ∃ g : Scan → Scan, s.roundDone id skip = ((s.modScan f).modScan g).confirmRound := by
  unfold State.roundDone
  split
  · cases skip
    · exact Or.inr (Or.inl rfl)
    · exact Or.inl rfl
  · split
    · exact Or.inl rfl
    · split
      · exact Or.inl rfl
      · cases skip with
        | none => exact Or.inr (Or.inr ⟨_, Or.inl rfl⟩)
        | some r =>
          dsimp only
          split
          · exact Or.inr (Or.inr ⟨_, Or.inr (Or.inr ⟨_, rfl⟩)⟩)
          · exact Or.inr (Or.inr ⟨_, Or.inr (Or.inl rfl)⟩)
  · exact Or.inl rfl

@[simp] theorem State.roundDone_frame (s : State) (id : Nat) (skip : Option SkipReason) :
    (s.roundDone id skip).meas.params = s.meas.params ∧ (s.roundDone id skip).calls = s.calls
      ∧ (s.roundDone id skip).text = s.text ∧ (s.roundDone id skip).pag.isAwake = s.pag.isAwake := by
  rcases s.roundDone_cases id skip with e | e | ⟨f, e | e | ⟨g, e⟩⟩ <;> rw [e] <;> simp

@[simp] theorem State.takePlaced_frame (s : State) (w : Waiter) (id : Nat) (start stop : Tick) :
    (s.takePlaced w id start stop).cmd = s.cmd ∧ (s.takePlaced w id start stop).air.anchor = s.air.anchor
      ∧ (s.takePlaced w id start stop).meas.params = s.meas.params
      ∧ (s.takePlaced w id start stop).svc.state = s.svc.state ∧ (s.takePlaced w id start stop).calls = s.calls
      ∧ (s.takePlaced w id start stop).text = s.text ∧ (s.takePlaced w id start stop).pag.isAwake = s.pag.isAwake := by
  unfold State.takePlaced
  repeat' split
  all_goals simp

@[simp] theorem State.runJob_awake (s : State) (j : Job) : (s.runJob j).pag.isAwake = s.pag.isAwake := by
  cases j <;> simp [State.runJob]

@[simp] theorem State.runAgenda_awake (n : Nat) (s : State) : (s.runAgenda n).pag.isAwake = s.pag.isAwake := by
  induction n generalizing s with
  | zero => rfl
  | succ n ih =>
    unfold State.runAgenda
    split
    · rfl
    · rw [ih, State.runJob_awake]

@[simp] theorem State.settle_awake (s : State) : s.settle.pag.isAwake = s.pag.isAwake := State.runAgenda_awake 256 s

@[simp] theorem State.requestSwitch_params (s : State) (c : Switch) : (s.requestSwitch c).meas.params = s.meas.params := by
  unfold State.requestSwitch
  rw [State.ask_params] <;> intros
  · simp
  · split <;> simp

@[simp] theorem State.switchFailed_params (s : State) (c : Switch) (x : SwitchCause) :
    (s.switchFailed c x).meas.params = s.meas.params := by simp [State.switchFailed]

@[simp] theorem State.phaseFailed_params (s : State) (c : Switch) :
    (s.phaseFailed c).meas.params = s.meas.params := by
  unfold State.phaseFailed
  split <;> simp

@[simp] theorem State.switchOutcome_params (s : State) (c : Switch) :
    (s.switchOutcome c).meas.params = s.meas.params := by
  unfold State.switchOutcome
  split <;> simp

@[simp] theorem State.switchReport_params (s : State) (id : Nat) (r : Report) :
    (s.switchReport id r).meas.params = s.meas.params := by
  unfold State.switchReport
  repeat' split
  all_goals simp

@[simp] theorem State.switchTold_params (s : State) (n : Nat) (b : Bool) :
    (s.switchTold n b).meas.params = s.meas.params := by
  unfold State.switchTold
  split <;> simp

@[simp] theorem State.unitReport_params (s : State) (owner : UnitId) (kind : WinKind) (id : Nat) (r : Report) :
    (s.unitReport owner kind id r).meas.params = s.meas.params := by
  unfold State.unitReport
  split <;> simp

@[simp] theorem State.takeReport_params (s : State) (owner : UnitId) (kind : WinKind) (id : Nat) (r : Report) :
    (s.takeReport owner kind id r).meas.params = s.meas.params := by
  simp [State.takeReport]

@[simp] theorem State.told_params (s : State) (sent : Bool) (e : TxEntry) (tail : Tick) :
    (s.told sent e tail).meas.params = s.meas.params := by
  unfold State.told
  split <;> simp

@[simp] theorem State.runJob_params (s : State) (j : Job) : (s.runJob j).meas.params = s.meas.params := by
  cases j <;> simp [State.runJob]

@[simp] theorem State.runAgenda_params (n : Nat) (s : State) : (s.runAgenda n).meas.params = s.meas.params := by
  induction n generalizing s with
  | zero => rfl
  | succ n ih =>
    unfold State.runAgenda
    split
    · rfl
    · rw [ih, State.runJob_params]

@[simp] theorem State.settle_params (s : State) : s.settle.meas.params = s.meas.params := State.runAgenda_params 256 s

end Sys2Proof.Machine
end

