-- ==== Sys2Proof/Laws/Queue.lean ====
section
/-! SUPPORT. What the operations of the send path do to its entries (R24 to R26): an offered parcel is in the queue or held and
the others stay, whatever moves from the held items into the queue. -/

namespace Sys2Proof.Machine

/-- The entries of the send path: those queued and those held. -/
abbrev Line.path (l : Line) : List TxEntry := l.txq ++ l.held

theorem Line.mem_insertTx (l : Line) (e f : TxEntry) (q : List TxEntry) : f ∈ l.insertTx e q ↔ f = e ∨ f ∈ q := by
  induction q with
  | nil => simp [Line.insertTx]
  | cons g q ih =>
    unfold Line.insertTx
    split
    · simp
    · simp only [List.mem_cons, ih]
      tauto

theorem Line.length_insertTx (l : Line) (e : TxEntry) (q : List TxEntry) : (l.insertTx e q).length = q.length + 1 := by
  induction q with
  | nil => rfl
  | cons g q ih =>
    unfold Line.insertTx
    split <;> simp [ih]

theorem mem_oldestHeld (e : TxEntry) (seen : List UnitId) (h : List TxEntry) : e ∈ oldestHeld seen h → e ∈ h := by
  induction h generalizing seen with
  | nil => simp [oldestHeld]
  | cons g h ih =>
    unfold oldestHeld
    split
    · exact fun k => List.mem_cons_of_mem _ (ih _ k)
    · intro k
      rcases List.mem_cons.mp k with k | k
      · exact k ▸ List.mem_cons_self ..
      · exact List.mem_cons_of_mem _ (ih _ k)

theorem Line.mem_lowestTag (l : Line) (e : TxEntry) (h : List TxEntry) : l.lowestTag h = some e → e ∈ h := by
  induction h generalizing e with
  | nil => simp [Line.lowestTag]
  | cons g h ih =>
    unfold Line.lowestTag
    split
    · intro k
      simp at k
      simp [k]
    · rename_i f hf
      split
      · intro k
        cases k
        exact List.mem_cons_of_mem _ (ih _ hf)
      · intro k
        simp at k
        simp [k]

/-- A held item that joins the queue stays in the send path, and so does every other entry (R24). -/
theorem Line.takeHeld_mem (l : Line) (e : TxEntry) : e ∈ l.takeHeld.path ↔ e ∈ l.path := by
  unfold Line.takeHeld
  split
  · split
    · rename_i f hf
      have hm : f ∈ l.held := mem_oldestHeld f [] l.held (l.mem_lowestTag f _ hf)
      simp only [Line.path, List.mem_append, Line.mem_insertTx]
      constructor
      · rintro ((h | h) | h)
        · exact Or.inr (h ▸ hm)
        · exact Or.inl h
        · exact Or.inr (List.mem_of_mem_erase h)
      · rintro (h | h)
        · exact Or.inl (Or.inr h)
        · by_cases hef : e = f
          · exact Or.inl (Or.inl hef)
          · exact Or.inr ((List.mem_erase_of_ne hef).mpr h)
    · rfl
  · rfl

theorem Line.takeHeld_nextSerial (l : Line) : l.takeHeld.nextSerial = l.nextSerial := by
  unfold Line.takeHeld
  repeat' split
  all_goals rfl

theorem Line.refillBy_mem (n : Nat) (l : Line) (e : TxEntry) : e ∈ (Line.refillBy n l).path ↔ e ∈ l.path := by
  induction n generalizing l with
  | zero => rfl
  | succ n ih => rw [Line.refillBy, ih, Line.takeHeld_mem]

/-- Filling the queue from the held items changes no entry of the send path (R24). -/
theorem Line.refill_mem (l : Line) (e : TxEntry) : e ∈ l.refill.path ↔ e ∈ l.path := Line.refillBy_mem _ l e

theorem Line.refillBy_nextSerial (n : Nat) (l : Line) : (Line.refillBy n l).nextSerial = l.nextSerial := by
  induction n generalizing l with
  | zero => rfl
  | succ n ih => rw [Line.refillBy, ih, Line.takeHeld_nextSerial]

theorem Line.refill_nextSerial (l : Line) : l.refill.nextSerial = l.nextSerial := Line.refillBy_nextSerial _ l

/-- An offered parcel is in the send path, and the entries before it stay (R24). -/
theorem Line.offer_mem (l : Line) (o : UnitId) (c t : Nat) (p : List Byte) (sp : Option TxSpan) (e : TxEntry) :
    e ∈ (l.offer o c t p sp).path ↔ e ∈ l.path ∨ e = ⟨l.nextSerial, o, c, t, p, sp, false⟩ := by
  rw [Line.offer, Line.refill_mem]
  simp only [Line.path, List.mem_append, List.mem_singleton]
  tauto

@[simp] theorem Line.offer_nextSerial (l : Line) (o : UnitId) (c t : Nat) (p : List Byte) (sp : Option TxSpan) :
    (l.offer o c t p sp).nextSerial = l.nextSerial + 1 := by
  rw [Line.offer, Line.refill_nextSerial]

/-- The queue with at most 12 entries has at most 12 after a held item joined it (R24). -/
theorem Line.takeHeld_length (l : Line) (h : l.txq.length ≤ 12) : l.takeHeld.txq.length ≤ 12 := by
  unfold Line.takeHeld
  split
  · split
    · simp only [Line.length_insertTx]
      omega
    · exact h
  · exact h

theorem Line.refillBy_length (n : Nat) (l : Line) (h : l.txq.length ≤ 12) : (Line.refillBy n l).txq.length ≤ 12 := by
  induction n generalizing l with
  | zero => exact h
  | succ n ih => exact ih _ (l.takeHeld_length h)

/-- A queue of at most 12 entries has at most 12 after it was filled from the held items (R24). -/
theorem Line.refill_length (l : Line) (h : l.txq.length ≤ 12) : l.refill.txq.length ≤ 12 := Line.refillBy_length _ l h

/-- An entry leaves the queue, and no other does; nothing joins the send path (R24, R25). -/
theorem Line.dequeue_mem (l : Line) (serial : Nat) (e : TxEntry) :
    e ∈ (l.dequeue serial).path ↔ (e ∈ l.txq ∧ e.serial ≠ serial) ∨ e ∈ l.held := by
  rw [Line.dequeue, Line.refill_mem]
  simp [Line.path, dropSerial]

@[simp] theorem Line.dequeue_nextSerial (l : Line) (serial : Nat) : (l.dequeue serial).nextSerial = l.nextSerial :=
  Line.refill_nextSerial _

@[simp] theorem Line.remove_nextSerial (l : Line) (serial : Nat) : (l.remove serial).nextSerial = l.nextSerial := by
  unfold Line.remove
  split
  · rfl
  · split
    · rfl
    · split
      · exact Line.dequeue_nextSerial l serial
      · rfl

/-- What is left of the send path when every entry of a kind is to go: the entries that are not of it, and of those that are
only one that was being sent, marked to leave when its attempt ends (R26). -/
theorem Line.removeAll_mem (l : Line) (p : TxEntry → Bool) (e : TxEntry) :
    e ∈ (l.removeAll p).path ↔
      (e ∈ l.path ∧ p e = false)
        ∨ ∃ f ∈ l.txq, p f = true ∧ l.isBeingSent f.serial = true ∧ e = { f with removal := true } := by
  rw [Line.removeAll, Line.refill_mem]
  simp only [Line.path, List.mem_append, List.mem_map, List.mem_filter, Bool.or_eq_true, Bool.not_eq_true']
  constructor
  · rintro (⟨f, ⟨hf, hk⟩, rfl⟩ | ⟨h, hp⟩)
    · cases hp : p f with
      | false => simp [hf, hp]
      | true => exact .inr ⟨f, hf, hp, by simpa [hp] using hk, by simp⟩
    · exact .inl ⟨.inr h, hp⟩
  · rintro (⟨h | h, hp⟩ | ⟨f, hf, hp, hs, rfl⟩)
    · exact .inl ⟨e, ⟨h, .inl hp⟩, by simp [hp]⟩
    · exact .inr ⟨h, hp⟩
    · exact .inl ⟨f, ⟨hf, .inr hs⟩, by simp [hp]⟩

@[simp] theorem Line.removeAll_nextSerial (l : Line) (p : TxEntry → Bool) :
    (l.removeAll p).nextSerial = l.nextSerial := Line.refill_nextSerial _

/-- A unit's parcel goes to the line interface's own operation; only the power state may change with it (R24, R155). -/
@[simp] theorem State.offer_line (s : State) (o : UnitId) (c t : Nat) (p : List Byte) (sp : Option TxSpan) :
    (s.offer o c t p sp).line = s.line.offer o c t p sp := by
  unfold State.offer
  dsimp only
  generalize s.line.offer o c t p sp = m
  unfold State.internalWake State.beginSettling
  repeat' split
  all_goals rfl

/-- A unit's parcel is in the send path, and the entries before it stay (R24). -/
theorem State.offer_mem (s : State) (o : UnitId) (c t : Nat) (p : List Byte) (sp : Option TxSpan) (e : TxEntry) :
    e ∈ (s.offer o c t p sp).line.path ↔ e ∈ s.line.path ∨ e = ⟨s.line.nextSerial, o, c, t, p, sp, false⟩ := by
  rw [State.offer_line, Line.offer_mem]

end Sys2Proof.Machine
end

