-- ==== Sys2Proof/Laws/Handling.lean ====
section
/-! SUPPORT. What a handling comes to: the end of a command with no work left over, the offers of a part that is awake, and the
parts of a host command's handling (R30, R35, R36). -/

namespace Sys2Proof.Machine

/-! ### The end of a handling -/

theorem State.runAgenda_nil (n : Nat) {s : State} (h : s.agenda = []) : s.runAgenda n = s := by
  cases n with
  | zero => rfl
  | succ n => rw [State.runAgenda, h]

/-- With no work handed on, a handling ends as it stands. -/
theorem State.settle_nil {s : State} (h : s.agenda = []) : s.settle = s := State.runAgenda_nil 256 h

/-- Outside DOZE the wake tick is left alone (R154). -/
theorem State.refreshWake_awake {s : State} (h : s.pag.power ≠ .doze) : s.refreshWake = s := by
  unfold State.refreshWake
  simp [h]

theorem Paging.isAwake_iff {p : Paging} : p.isAwake = true ↔ p.power = .awake := beq_iff_eq

/-- A handling that neither recorded an event nor ended the outstanding NOTICE builds none (R42). -/
theorem State.tellHost_same {s : State} {before : Command} (hn : s.cmd.notices = before.notices)
    (ho : s.cmd.noticeOut = before.noticeOut) : s.tellHost before = s := by
  simp [State.tellHost, hn, ho]

/-- What the end of a handling may do for the host: nothing, or build a NOTICE (R42). -/
theorem State.tellHost_cases (s : State) (before : Command) :
    s.tellHost before = s ∨ s.tellHost before = s.buildNotice := by
  unfold State.tellHost
  split
  · exact .inl rfl
  · exact .inr rfl

@[simp] theorem State.tellHost_awake (s : State) (before : Command) :
    (s.tellHost before).pag.isAwake = s.pag.isAwake := by
  rcases s.tellHost_cases before with e | e <;> rw [e]
  simp

/-- A handling of a part AWAKE that hands no work on. -/
theorem State.act_awake {s : State} {f : State → State} (hr : s.inReset = false) (ha : (f s).agenda = [])
    (hp : (f s).pag.isAwake = true) : s.act f = .next ((f s).tellHost s.cmd) := by
  have h : ((f s).tellHost s.cmd).pag.power ≠ .doze := by
    rw [Paging.isAwake_iff.mp ((State.tellHost_awake _ _).trans hp)]; decide
  rw [State.act, hr, State.finish, State.settle_nil ha, State.refreshWake_awake h]
  rfl

/-- A handling that hands no work on. -/
theorem State.act_settled {s : State} {f : State → State} (hr : s.inReset = false) (ha : (f s).agenda = []) :
    s.act f = .next ((f s).tellHost s.cmd).refreshWake := by
  rw [State.act, hr, State.finish, State.settle_nil ha]
  rfl

/-- A handling of a part AWAKE that comes to a state with no work left over answers that state, with the NOTICE of what it
recorded. -/
theorem State.act_to {s u : State} {f : State → State} (hr : s.inReset = false) (hf : f s = u) (ha : u.agenda = [])
    (hp : u.pag.isAwake = true) : s.act f = .next (u.tellHost s.cmd) := by
  subst hf
  exact State.act_awake hr ha hp

/-- A handling of a part AWAKE that comes to a state with no work left over and tells the host nothing answers that state. -/
theorem State.act_quiet {s u : State} {f : State → State} (hr : s.inReset = false) (hf : f s = u) (ha : u.agenda = [])
    (hp : u.pag.isAwake = true) (hn : u.cmd.notices = s.cmd.notices) (ho : u.cmd.noticeOut = s.cmd.noticeOut) :
    s.act f = .next u := by
  rw [State.act_to hr hf ha hp, State.tellHost_same hn ho]

/-- Every command's handling answers a next state. -/
theorem State.act_next (s : State) (f : State → State) : ∃ t, s.act f = .next t := ⟨_, rfl⟩

/-! ### Offers of a part that is awake -/

theorem State.internalWake_of_awake {s : State} (h : s.pag.isAwake = true) : s.internalWake = s := by
  unfold State.internalWake
  simp [Paging.isAwake_iff.mp h]

/-- An offer of a part AWAKE changes its send path alone (R24, R155). -/
theorem State.offer_of_awake {s : State} (h : s.pag.isAwake = true) (o : UnitId) (c t : Nat) (p : List Byte)
    (sp : Option TxSpan) : s.offer o c t p sp = { s with line := s.line.offer o c t p sp } := by
  unfold State.offer
  dsimp only
  split
  · rfl
  · exact State.internalWake_of_awake h

/-- Building a NOTICE changes the pending notice list and the send path alone (R42). -/
theorem State.buildNotice_of_awake {s : State} (h : s.pag.isAwake = true) :
    s.buildNotice = { s with cmd := s.buildNotice.cmd, line := s.buildNotice.line } := by
  unfold State.buildNotice
  split
  · rfl
  · split
    · rfl
    · dsimp only
      rw [State.offer_of_awake (by exact h)]

/-- A NOTICE built leaves every other entry of the send path (R24, R42). -/
theorem State.buildNotice_mem (s : State) (e : TxEntry) (h : e ∈ s.line.path) : e ∈ s.buildNotice.line.path := by
  unfold State.buildNotice
  split
  · exact h
  · split
    · exact h
    · exact (State.offer_mem _ _ _ _ _ _ _).mpr (Or.inl h)

/-- The NOTICE of a handling changes the pending notice list and the send path alone, of a part AWAKE (R42). -/
theorem State.tellHost_of_awake {s : State} (h : s.pag.isAwake = true) (before : Command) :
    s.tellHost before = { s with cmd := (s.tellHost before).cmd, line := (s.tellHost before).line } := by
  rcases s.tellHost_cases before with e | e <;> rw [e]
  exact State.buildNotice_of_awake h

/-- The NOTICE of a handling leaves every other entry of the send path (R24, R42). -/
theorem State.tellHost_mem (s : State) (before : Command) (e : TxEntry) (h : e ∈ s.line.path) :
    e ∈ (s.tellHost before).line.path := by
  rcases s.tellHost_cases before with e' | e' <;> rw [e']
  · exact h
  · exact State.buildNotice_mem s e h

/-- An event raised leaves the line interface as it is (R41). -/
@[simp] theorem State.raise_line (s : State) (k : NoticeKind) (d : List Byte) : (s.raise k d).line = s.line := by
  unfold State.raise State.internalWake State.beginSettling
  split
  · split <;> rfl
  · rfl

/-- An event raised changes the pending notice list alone, of a part AWAKE (R41, R155). -/
theorem State.raise_of_awake {s : State} (h : s.pag.isAwake = true) (k : NoticeKind) (d : List Byte) :
    s.raise k d = { s with cmd := (s.raise k d).cmd } := by
  unfold State.raise
  split
  · rw [State.internalWake_of_awake (by exact h)]
  · rfl

/-! ### Host commands -/

@[simp] theorem State.toHost_mem (s : State) (c t : Nat) (p : List Byte) (e : TxEntry) :
    e ∈ (s.toHost c t p).line.path ↔ e ∈ s.line.path ∨ e = ⟨s.line.nextSerial, .command, c, t, p, none, false⟩ :=
  State.offer_mem _ _ _ _ _ _ _

theorem State.toHostAll_of_awake {s : State} (h : s.pag.isAwake = true) (ps : List HostParcel) :
    s.toHostAll ps = { s with line := (s.toHostAll ps).line } := by
  unfold State.toHostAll
  induction ps generalizing s with
  | nil => rfl
  | cons p ps ih =>
    simp only [List.foldl_cons]
    have e : s.toHost p.cls p.topic p.payload = { s with line := (s.toHost p.cls p.topic p.payload).line } := by
      unfold State.toHost
      rw [State.offer_of_awake h]
    rw [ih (by rw [e]; exact h)]
    rw [e]

theorem State.toHostAll_mem (s : State) (ps : List HostParcel) (e : TxEntry) (h : e ∈ s.line.path) :
    e ∈ (s.toHostAll ps).line.path := by
  unfold State.toHostAll
  induction ps generalizing s with
  | nil => exact h
  | cons p ps ih => exact ih _ ((State.toHost_mem _ _ _ _ _).mpr (Or.inl h))

theorem State.toHostAll_serial (s : State) (ps : List HostParcel) :
    s.line.nextSerial ≤ (s.toHostAll ps).line.nextSerial := by
  unfold State.toHostAll
  induction ps generalizing s with
  | nil => exact Nat.le_refl _
  | cons p ps ih =>
    refine Nat.le_trans ?_ (ih _)
    simp [State.toHost]

/-- Every parcel of a list for the host is offered (R35). -/
theorem State.toHostAll_sends (s : State) (ps : List HostParcel) (p : HostParcel) (h : p ∈ ps) :
    ∃ e ∈ (s.toHostAll ps).line.path,
      s.line.nextSerial ≤ e.serial ∧ e.cls = p.cls ∧ e.topic = p.topic ∧ e.payload = p.payload := by
  unfold State.toHostAll
  induction ps generalizing s with
  | nil => cases h
  | cons q ps ih =>
    simp only [List.foldl_cons]
    rcases List.mem_cons.mp h with h | h
    · subst h
      exact ⟨_, State.toHostAll_mem _ ps _ ((State.toHost_mem _ _ _ _ _).mpr (Or.inr rfl)), Nat.le_refl _, rfl, rfl, rfl⟩
    · obtain ⟨e, he, hs, hr⟩ := ih (s.toHost q.cls q.topic q.payload) h
      exact ⟨e, he, Nat.le_trans (by simp [State.toHost]) hs, hr⟩

/-- The end of a host command's handling changes the reception queue, the send path and the command and notice unit alone, of a
part AWAKE (R30, R35, R42). -/
theorem State.endCommand_of_awake {s : State} (h : s.pag.isAwake = true) (r : RxRecord) (y : Reply) :
    s.endCommand r y = { s with cmd := (s.endCommand r y).cmd, line := (s.endCommand r y).line } := by
  unfold State.endCommand
  have h1 : s.completeRecord.pag.isAwake = true := h
  dsimp only
  rw [State.toHostAll_of_awake (ps := y.parcels) (by simpa [State.toHostAll] using h1)]
  unfold State.toHost
  rw [State.offer_of_awake (by simpa [State.toHostAll] using h1), State.toHostAll_of_awake h1]
  rfl

/-- What the end of a host command's handling leaves of the line interface and of the command and notice unit. -/
theorem State.endCommand_kept (s : State) (r : RxRecord) (y : Reply) :
    (s.endCommand r y).kept = { s.kept with line := { s.kept.line with rxq := s.kept.line.rxq.tail }, handling := false } := by
  unfold State.endCommand State.toHostAll
  have h : ∀ t : State, ({ t with cmd := { t.cmd with handling := false } } : State).kept = { t.kept with handling := false } :=
    fun _ => rfl
  rw [h, State.foldl_kept _ _ _ (by intros; exact State.toHost_kept _ _ _ _), State.toHost_kept,
    State.foldl_kept _ _ _ (by intros; exact State.toHost_kept _ _ _ _)]
  rfl

/-- The ANSWER of a host command and every parcel that goes with it are offered (R35). -/
theorem State.endCommand_answer (s : State) (r : RxRecord) (y : Reply) :
    ∃ e ∈ (s.endCommand r y).line.path,
      s.line.nextSerial ≤ e.serial ∧ e.cls = 4 ∧ e.topic = 32 ∧ e.payload = answerPayload r y.outcome y.detail := by
  unfold State.endCommand
  refine ⟨_, State.toHostAll_mem _ _ _ ((State.toHost_mem _ _ _ _ _).mpr (Or.inr rfl)), ?_, rfl, rfl, rfl⟩
  exact State.toHostAll_serial s.completeRecord y.first

/-- A parcel that goes after the ANSWER is offered (R35). -/
theorem State.endCommand_parcel (s : State) (r : RxRecord) (y : Reply) (p : HostParcel) (h : p ∈ y.parcels) :
    ∃ e ∈ (s.endCommand r y).line.path,
      s.line.nextSerial ≤ e.serial ∧ e.cls = p.cls ∧ e.topic = p.topic ∧ e.payload = p.payload := by
  unfold State.endCommand
  dsimp only
  obtain ⟨e, he, hs, hr⟩ :=
    State.toHostAll_sends ((s.completeRecord.toHostAll y.first).toHost 4 32 (answerPayload r y.outcome y.detail)) y.parcels p h
  refine ⟨e, he, Nat.le_trans ?_ hs, hr⟩
  refine Nat.le_trans (State.toHostAll_serial s.completeRecord y.first) ?_
  simp [State.toHost]

/-- An entry of the send path before the end of a host command's handling is there after it. -/
theorem State.endCommand_mem (s : State) (r : RxRecord) (y : Reply) (e : TxEntry) (h : e ∈ s.line.path) :
    e ∈ (s.endCommand r y).line.path := by
  unfold State.endCommand
  exact State.toHostAll_mem _ _ _ ((State.toHost_mem _ _ _ _ _).mpr (Or.inl (State.toHostAll_mem _ _ _ h)))

/-- A host command refused by the checks of R36 goes straight to its ANSWER. -/
theorem State.hostCommand_refused {s : State} {topic : Nat} {r : RxRecord} {o : Answered} (h : Handler)
    (hq : s.line.rxq.head? = some r) (ht : r.topic = topic) (hc : s.preCheck r = some o) :
    s.hostCommand topic h = ((s.beginCommand r).settle).endCommand r (Reply.refuse o) := by
  have hc' : (s.beginCommand r).preCheck r = some o := hc
  unfold State.hostCommand
  cases hx : s.line.rxq with
  | nil => simp [hx] at hq
  | cons a q =>
    simp only [hx, List.head?_cons, Option.some.injEq] at hq
    subst hq
    simp [ht, hc']

/-- A host command that passes the checks of R36 is handled, and answered with its reply. -/
theorem State.hostCommand_run {s t : State} {topic : Nat} {r : RxRecord} {h : Handler} {y : Reply}
    (hq : s.line.rxq.head? = some r) (ht : r.topic = topic) (hc : s.preCheck r = none)
    (hy : h (s.beginCommand r) r = (t, y)) : s.hostCommand topic h = t.settle.endCommand r y := by
  have hc' : (s.beginCommand r).preCheck r = none := hc
  unfold State.hostCommand
  cases hx : s.line.rxq with
  | nil => simp [hx] at hq
  | cons a q =>
    simp only [hx, List.head?_cons, Option.some.injEq] at hq
    subst hq
    simp [ht, hc', hy]

/-- A parcel from the transceiver or a peer, neither short nor malformed, is handled and its record completed (R30). -/
theorem State.radioParcel_run {s : State} {topic : Nat} {r : RxRecord} (h : State → RxRecord → State)
    (hq : s.line.rxq.head? = some r) (ht : r.topic = topic) (hs : isShort r.topic r.payload = false)
    (hm : isMalformed r.topic r.payload = false) : s.radioParcel topic h = (h s r).settle.completeRecord := by
  unfold State.radioParcel
  cases hx : s.line.rxq with
  | nil => simp [hx] at hq
  | cons a q =>
    simp only [hx, List.head?_cons, Option.some.injEq] at hq
    subst hq
    simp [ht] at hs hm ⊢
    simp [hs, hm]

/-- A radio parcel's handling that hands no work on: the state its unit leaves, with the record completed (R30). -/
theorem State.receive_to {s u : State} {topic : Nat} {r : RxRecord} {h : State → RxRecord → State}
    (hi : s.inReset = false) (hq : s.line.rxq.head? = some r) (ht : r.topic = topic)
    (hs : isShort r.topic r.payload = false) (hm : isMalformed r.topic r.payload = false) (hu : h s r = u)
    (ha : u.agenda = []) (hp : u.pag.isAwake = true) :
    s.act (State.radioParcel topic h) = .next (u.completeRecord.tellHost s.cmd) := by
  refine State.act_to hi ?_ ha hp
  rw [State.radioParcel_run h hq ht hs hm, hu, State.settle_nil ha]

/-- A radio parcel's handling with the work it hands on (R30). -/
theorem State.receive_settle {s : State} {topic : Nat} {r : RxRecord} {h : State → RxRecord → State}
    (hi : s.inReset = false) (hq : s.line.rxq.head? = some r) (ht : r.topic = topic)
    (hs : isShort r.topic r.payload = false) (hm : isMalformed r.topic r.payload = false) {u : State}
    (hu : (h s r).settle = u) (ha : u.agenda = []) (hp : u.pag.isAwake = true) :
    s.act (State.radioParcel topic h) = .next (u.completeRecord.tellHost s.cmd) := by
  refine State.act_to hi ?_ ha hp
  rw [State.radioParcel_run h hq ht hs hm, hu]

/-- A host command's handling that hands no work on: the state its unit leaves, answered (R30, R35). -/
theorem State.command_to {s t : State} {topic : Nat} {r : RxRecord} {h : Handler} {y : Reply} (hi : s.inReset = false)
    (hq : s.line.rxq.head? = some r) (ht : r.topic = topic) (hc : s.preCheck r = none)
    (hy : h (s.beginCommand r) r = (t, y)) (ha : t.agenda = []) (hp : t.pag.isAwake = true) :
    s.act (State.hostCommand topic h) = .next ((t.endCommand r y).tellHost s.cmd) := by
  have e := State.endCommand_of_awake hp r y
  refine State.act_to hi ?_ ?_ ?_
  · rw [State.hostCommand_run hq ht hc hy, State.settle_nil ha]
  · rw [e]; exact ha
  · rw [e]; exact hp

/-- A timed event of a part AWAKE that hands no work on (R47). -/
theorem State.timed_to {s u : State} {t : Option Tick} {k : Tick} {f : State → State} (hi : s.inReset = false)
    (ht : t = some k) (hu : f (s.reach k) = u) (ha : u.agenda = []) (hp : u.pag.isAwake = true) :
    s.act (fun s => s.atTick t f) = .next (u.tellHost s.cmd) :=
  State.act_to hi (by rw [ht]; exact hu) ha hp

@[simp] theorem State.reach_frame (s : State) (t : Tick) :
    (s.reach t).inReset = s.inReset ∧ (s.reach t).line = s.line ∧ (s.reach t).cmd = s.cmd ∧ (s.reach t).meas = s.meas
      ∧ (s.reach t).svc = s.svc ∧ (s.reach t).ho = s.ho ∧ (s.reach t).pag = s.pag ∧ (s.reach t).calls = s.calls
      ∧ (s.reach t).text = s.text ∧ (s.reach t).agenda = s.agenda ∧ (s.reach t).pending = s.pending
      ∧ (s.reach t).freeCount = s.freeCount ∧ (s.reach t).air.plan = s.air.plan ∧ (s.reach t).air.peers = s.air.peers
      ∧ (s.reach t).air.anchor = s.air.anchor ∧ (s.reach t).air.owed = s.air.owed
      ∧ (s.reach t).air.idCounter = s.air.idCounter := by
  unfold State.reach
  split <;> simp

end Sys2Proof.Machine
end

