-- ==== Sys2Proof/Laws/State.lean ====
section
/-! SUPPORT. The named updates of the state: what each makes of the field it changes, and that it leaves every other field as it
is. All are true by definition, so no later proof unfolds a record update. -/

namespace Sys2Proof.Machine

/-! `setPhase` -/

@[simp] theorem State.setPhase_line (s : State) (p : LinePhase) : (s.setPhase p).line = { s.line with phase := p } := rfl
@[simp] theorem State.setPhase_inReset (s : State) (p : LinePhase) : (s.setPhase p).inReset = s.inReset := rfl
@[simp] theorem State.setPhase_cmd (s : State) (p : LinePhase) : (s.setPhase p).cmd = s.cmd := rfl
@[simp] theorem State.setPhase_air (s : State) (p : LinePhase) : (s.setPhase p).air = s.air := rfl
@[simp] theorem State.setPhase_meas (s : State) (p : LinePhase) : (s.setPhase p).meas = s.meas := rfl
@[simp] theorem State.setPhase_svc (s : State) (p : LinePhase) : (s.setPhase p).svc = s.svc := rfl
@[simp] theorem State.setPhase_ho (s : State) (p : LinePhase) : (s.setPhase p).ho = s.ho := rfl
@[simp] theorem State.setPhase_pag (s : State) (p : LinePhase) : (s.setPhase p).pag = s.pag := rfl
@[simp] theorem State.setPhase_calls (s : State) (p : LinePhase) : (s.setPhase p).calls = s.calls := rfl
@[simp] theorem State.setPhase_text (s : State) (p : LinePhase) : (s.setPhase p).text = s.text := rfl
@[simp] theorem State.setPhase_agenda (s : State) (p : LinePhase) : (s.setPhase p).agenda = s.agenda := rfl
@[simp] theorem State.setPhase_freeCount (s : State) (p : LinePhase) : (s.setPhase p).freeCount = s.freeCount := rfl
@[simp] theorem State.setPhase_pending (s : State) (p : LinePhase) : (s.setPhase p).pending = s.pending := rfl

/-! `setWait` -/

@[simp] theorem State.setWait_line (s : State) (w : LineWait) : (s.setWait w).line = { s.line with wait := w } := rfl
@[simp] theorem State.setWait_inReset (s : State) (w : LineWait) : (s.setWait w).inReset = s.inReset := rfl
@[simp] theorem State.setWait_cmd (s : State) (w : LineWait) : (s.setWait w).cmd = s.cmd := rfl
@[simp] theorem State.setWait_air (s : State) (w : LineWait) : (s.setWait w).air = s.air := rfl
@[simp] theorem State.setWait_meas (s : State) (w : LineWait) : (s.setWait w).meas = s.meas := rfl
@[simp] theorem State.setWait_svc (s : State) (w : LineWait) : (s.setWait w).svc = s.svc := rfl
@[simp] theorem State.setWait_ho (s : State) (w : LineWait) : (s.setWait w).ho = s.ho := rfl
@[simp] theorem State.setWait_pag (s : State) (w : LineWait) : (s.setWait w).pag = s.pag := rfl
@[simp] theorem State.setWait_calls (s : State) (w : LineWait) : (s.setWait w).calls = s.calls := rfl
@[simp] theorem State.setWait_text (s : State) (w : LineWait) : (s.setWait w).text = s.text := rfl
@[simp] theorem State.setWait_agenda (s : State) (w : LineWait) : (s.setWait w).agenda = s.agenda := rfl
@[simp] theorem State.setWait_freeCount (s : State) (w : LineWait) : (s.setWait w).freeCount = s.freeCount := rfl
@[simp] theorem State.setWait_pending (s : State) (w : LineWait) : (s.setWait w).pending = s.pending := rfl

/-! `setExtraWait` -/

@[simp] theorem State.setExtraWait_line (s : State) (n : Nat) : (s.setExtraWait n).line = { s.line with extraWait := n } := rfl
@[simp] theorem State.setExtraWait_inReset (s : State) (n : Nat) : (s.setExtraWait n).inReset = s.inReset := rfl
@[simp] theorem State.setExtraWait_cmd (s : State) (n : Nat) : (s.setExtraWait n).cmd = s.cmd := rfl
@[simp] theorem State.setExtraWait_air (s : State) (n : Nat) : (s.setExtraWait n).air = s.air := rfl
@[simp] theorem State.setExtraWait_meas (s : State) (n : Nat) : (s.setExtraWait n).meas = s.meas := rfl
@[simp] theorem State.setExtraWait_svc (s : State) (n : Nat) : (s.setExtraWait n).svc = s.svc := rfl
@[simp] theorem State.setExtraWait_ho (s : State) (n : Nat) : (s.setExtraWait n).ho = s.ho := rfl
@[simp] theorem State.setExtraWait_pag (s : State) (n : Nat) : (s.setExtraWait n).pag = s.pag := rfl
@[simp] theorem State.setExtraWait_calls (s : State) (n : Nat) : (s.setExtraWait n).calls = s.calls := rfl
@[simp] theorem State.setExtraWait_text (s : State) (n : Nat) : (s.setExtraWait n).text = s.text := rfl
@[simp] theorem State.setExtraWait_agenda (s : State) (n : Nat) : (s.setExtraWait n).agenda = s.agenda := rfl
@[simp] theorem State.setExtraWait_freeCount (s : State) (n : Nat) : (s.setExtraWait n).freeCount = s.freeCount := rfl
@[simp] theorem State.setExtraWait_pending (s : State) (n : Nat) : (s.setExtraWait n).pending = s.pending := rfl

/-! `clearHoldoffs` -/

@[simp] theorem State.clearHoldoffs_line (s : State) : s.clearHoldoffs.line = { s.line with ownHoldoffs := 0 } := rfl
@[simp] theorem State.clearHoldoffs_inReset (s : State) : s.clearHoldoffs.inReset = s.inReset := rfl
@[simp] theorem State.clearHoldoffs_cmd (s : State) : s.clearHoldoffs.cmd = s.cmd := rfl
@[simp] theorem State.clearHoldoffs_air (s : State) : s.clearHoldoffs.air = s.air := rfl
@[simp] theorem State.clearHoldoffs_meas (s : State) : s.clearHoldoffs.meas = s.meas := rfl
@[simp] theorem State.clearHoldoffs_svc (s : State) : s.clearHoldoffs.svc = s.svc := rfl
@[simp] theorem State.clearHoldoffs_ho (s : State) : s.clearHoldoffs.ho = s.ho := rfl
@[simp] theorem State.clearHoldoffs_pag (s : State) : s.clearHoldoffs.pag = s.pag := rfl
@[simp] theorem State.clearHoldoffs_calls (s : State) : s.clearHoldoffs.calls = s.calls := rfl
@[simp] theorem State.clearHoldoffs_text (s : State) : s.clearHoldoffs.text = s.text := rfl
@[simp] theorem State.clearHoldoffs_agenda (s : State) : s.clearHoldoffs.agenda = s.agenda := rfl
@[simp] theorem State.clearHoldoffs_freeCount (s : State) : s.clearHoldoffs.freeCount = s.freeCount := rfl
@[simp] theorem State.clearHoldoffs_pending (s : State) : s.clearHoldoffs.pending = s.pending := rfl

/-! `completeRecord` -/

@[simp] theorem State.completeRecord_line (s : State) : s.completeRecord.line = { s.line with rxq := s.line.rxq.tail } := rfl
@[simp] theorem State.completeRecord_inReset (s : State) : s.completeRecord.inReset = s.inReset := rfl
@[simp] theorem State.completeRecord_cmd (s : State) : s.completeRecord.cmd = s.cmd := rfl
@[simp] theorem State.completeRecord_air (s : State) : s.completeRecord.air = s.air := rfl
@[simp] theorem State.completeRecord_meas (s : State) : s.completeRecord.meas = s.meas := rfl
@[simp] theorem State.completeRecord_svc (s : State) : s.completeRecord.svc = s.svc := rfl
@[simp] theorem State.completeRecord_ho (s : State) : s.completeRecord.ho = s.ho := rfl
@[simp] theorem State.completeRecord_pag (s : State) : s.completeRecord.pag = s.pag := rfl
@[simp] theorem State.completeRecord_calls (s : State) : s.completeRecord.calls = s.calls := rfl
@[simp] theorem State.completeRecord_text (s : State) : s.completeRecord.text = s.text := rfl
@[simp] theorem State.completeRecord_agenda (s : State) : s.completeRecord.agenda = s.agenda := rfl
@[simp] theorem State.completeRecord_freeCount (s : State) : s.completeRecord.freeCount = s.freeCount := rfl
@[simp] theorem State.completeRecord_pending (s : State) : s.completeRecord.pending = s.pending := rfl

/-! `remove` -/

@[simp] theorem State.remove_line (s : State) (n : Nat) : (s.remove n).line = s.line.remove n := rfl
@[simp] theorem State.remove_inReset (s : State) (n : Nat) : (s.remove n).inReset = s.inReset := rfl
@[simp] theorem State.remove_cmd (s : State) (n : Nat) : (s.remove n).cmd = s.cmd := rfl
@[simp] theorem State.remove_air (s : State) (n : Nat) : (s.remove n).air = s.air := rfl
@[simp] theorem State.remove_meas (s : State) (n : Nat) : (s.remove n).meas = s.meas := rfl
@[simp] theorem State.remove_svc (s : State) (n : Nat) : (s.remove n).svc = s.svc := rfl
@[simp] theorem State.remove_ho (s : State) (n : Nat) : (s.remove n).ho = s.ho := rfl
@[simp] theorem State.remove_pag (s : State) (n : Nat) : (s.remove n).pag = s.pag := rfl
@[simp] theorem State.remove_calls (s : State) (n : Nat) : (s.remove n).calls = s.calls := rfl
@[simp] theorem State.remove_text (s : State) (n : Nat) : (s.remove n).text = s.text := rfl
@[simp] theorem State.remove_agenda (s : State) (n : Nat) : (s.remove n).agenda = s.agenda := rfl
@[simp] theorem State.remove_freeCount (s : State) (n : Nat) : (s.remove n).freeCount = s.freeCount := rfl
@[simp] theorem State.remove_pending (s : State) (n : Nat) : (s.remove n).pending = s.pending := rfl

/-! `removeAll` -/

@[simp] theorem State.removeAll_line (s : State) (p : TxEntry → Bool) :
    (s.removeAll p).line = s.line.removeAll p := rfl
@[simp] theorem State.removeAll_inReset (s : State) (p : TxEntry → Bool) : (s.removeAll p).inReset = s.inReset := rfl
@[simp] theorem State.removeAll_cmd (s : State) (p : TxEntry → Bool) : (s.removeAll p).cmd = s.cmd := rfl
@[simp] theorem State.removeAll_air (s : State) (p : TxEntry → Bool) : (s.removeAll p).air = s.air := rfl
@[simp] theorem State.removeAll_meas (s : State) (p : TxEntry → Bool) : (s.removeAll p).meas = s.meas := rfl
@[simp] theorem State.removeAll_svc (s : State) (p : TxEntry → Bool) : (s.removeAll p).svc = s.svc := rfl
@[simp] theorem State.removeAll_ho (s : State) (p : TxEntry → Bool) : (s.removeAll p).ho = s.ho := rfl
@[simp] theorem State.removeAll_pag (s : State) (p : TxEntry → Bool) : (s.removeAll p).pag = s.pag := rfl
@[simp] theorem State.removeAll_calls (s : State) (p : TxEntry → Bool) : (s.removeAll p).calls = s.calls := rfl
@[simp] theorem State.removeAll_text (s : State) (p : TxEntry → Bool) : (s.removeAll p).text = s.text := rfl
@[simp] theorem State.removeAll_agenda (s : State) (p : TxEntry → Bool) : (s.removeAll p).agenda = s.agenda := rfl
@[simp] theorem State.removeAll_freeCount (s : State) (p : TxEntry → Bool) : (s.removeAll p).freeCount = s.freeCount := rfl
@[simp] theorem State.removeAll_pending (s : State) (p : TxEntry → Bool) : (s.removeAll p).pending = s.pending := rfl

/-! `push` -/

@[simp] theorem State.push_agenda (s : State) (j : Job) : (s.push j).agenda = s.agenda ++ [j] := rfl
@[simp] theorem State.push_inReset (s : State) (j : Job) : (s.push j).inReset = s.inReset := rfl
@[simp] theorem State.push_line (s : State) (j : Job) : (s.push j).line = s.line := rfl
@[simp] theorem State.push_cmd (s : State) (j : Job) : (s.push j).cmd = s.cmd := rfl
@[simp] theorem State.push_air (s : State) (j : Job) : (s.push j).air = s.air := rfl
@[simp] theorem State.push_meas (s : State) (j : Job) : (s.push j).meas = s.meas := rfl
@[simp] theorem State.push_svc (s : State) (j : Job) : (s.push j).svc = s.svc := rfl
@[simp] theorem State.push_ho (s : State) (j : Job) : (s.push j).ho = s.ho := rfl
@[simp] theorem State.push_pag (s : State) (j : Job) : (s.push j).pag = s.pag := rfl
@[simp] theorem State.push_calls (s : State) (j : Job) : (s.push j).calls = s.calls := rfl
@[simp] theorem State.push_text (s : State) (j : Job) : (s.push j).text = s.text := rfl
@[simp] theorem State.push_freeCount (s : State) (j : Job) : (s.push j).freeCount = s.freeCount := rfl
@[simp] theorem State.push_pending (s : State) (j : Job) : (s.push j).pending = s.pending := rfl

/-! `beginCommand` -/

@[simp] theorem State.beginCommand_cmd (s : State) (r : RxRecord) :
    (s.beginCommand r).cmd = { s.cmd with linger := some (after r.arrival 3277), handling := true } := rfl
@[simp] theorem State.beginCommand_inReset (s : State) (r : RxRecord) : (s.beginCommand r).inReset = s.inReset := rfl
@[simp] theorem State.beginCommand_line (s : State) (r : RxRecord) : (s.beginCommand r).line = s.line := rfl
@[simp] theorem State.beginCommand_air (s : State) (r : RxRecord) : (s.beginCommand r).air = s.air := rfl
@[simp] theorem State.beginCommand_meas (s : State) (r : RxRecord) : (s.beginCommand r).meas = s.meas := rfl
@[simp] theorem State.beginCommand_svc (s : State) (r : RxRecord) : (s.beginCommand r).svc = s.svc := rfl
@[simp] theorem State.beginCommand_ho (s : State) (r : RxRecord) : (s.beginCommand r).ho = s.ho := rfl
@[simp] theorem State.beginCommand_pag (s : State) (r : RxRecord) : (s.beginCommand r).pag = s.pag := rfl
@[simp] theorem State.beginCommand_calls (s : State) (r : RxRecord) : (s.beginCommand r).calls = s.calls := rfl
@[simp] theorem State.beginCommand_text (s : State) (r : RxRecord) : (s.beginCommand r).text = s.text := rfl
@[simp] theorem State.beginCommand_agenda (s : State) (r : RxRecord) : (s.beginCommand r).agenda = s.agenda := rfl
@[simp] theorem State.beginCommand_freeCount (s : State) (r : RxRecord) : (s.beginCommand r).freeCount = s.freeCount := rfl
@[simp] theorem State.beginCommand_pending (s : State) (r : RxRecord) : (s.beginCommand r).pending = s.pending := rfl

/-! `leavePlan` -/

@[simp] theorem State.leavePlan_air (s : State) (id : Nat) :
    (s.leavePlan id).air = { s.air with plan := s.air.plan.filter (·.id != id) } := rfl
@[simp] theorem State.leavePlan_inReset (s : State) (id : Nat) : (s.leavePlan id).inReset = s.inReset := rfl
@[simp] theorem State.leavePlan_line (s : State) (id : Nat) : (s.leavePlan id).line = s.line := rfl
@[simp] theorem State.leavePlan_cmd (s : State) (id : Nat) : (s.leavePlan id).cmd = s.cmd := rfl
@[simp] theorem State.leavePlan_meas (s : State) (id : Nat) : (s.leavePlan id).meas = s.meas := rfl
@[simp] theorem State.leavePlan_svc (s : State) (id : Nat) : (s.leavePlan id).svc = s.svc := rfl
@[simp] theorem State.leavePlan_ho (s : State) (id : Nat) : (s.leavePlan id).ho = s.ho := rfl
@[simp] theorem State.leavePlan_pag (s : State) (id : Nat) : (s.leavePlan id).pag = s.pag := rfl
@[simp] theorem State.leavePlan_calls (s : State) (id : Nat) : (s.leavePlan id).calls = s.calls := rfl
@[simp] theorem State.leavePlan_text (s : State) (id : Nat) : (s.leavePlan id).text = s.text := rfl
@[simp] theorem State.leavePlan_agenda (s : State) (id : Nat) : (s.leavePlan id).agenda = s.agenda := rfl
@[simp] theorem State.leavePlan_freeCount (s : State) (id : Nat) : (s.leavePlan id).freeCount = s.freeCount := rfl
@[simp] theorem State.leavePlan_pending (s : State) (id : Nat) : (s.leavePlan id).pending = s.pending := rfl

/-! `modWindow` -/

@[simp] theorem State.modWindow_air (s : State) (id : Nat) (f : Window → Window) :
    (s.modWindow id f).air = { s.air with plan := s.air.plan.map fun w => if w.id == id then f w else w } := rfl
@[simp] theorem State.modWindow_inReset (s : State) (id : Nat) (f : Window → Window) : (s.modWindow id f).inReset = s.inReset := rfl
@[simp] theorem State.modWindow_line (s : State) (id : Nat) (f : Window → Window) : (s.modWindow id f).line = s.line := rfl
@[simp] theorem State.modWindow_cmd (s : State) (id : Nat) (f : Window → Window) : (s.modWindow id f).cmd = s.cmd := rfl
@[simp] theorem State.modWindow_meas (s : State) (id : Nat) (f : Window → Window) : (s.modWindow id f).meas = s.meas := rfl
@[simp] theorem State.modWindow_svc (s : State) (id : Nat) (f : Window → Window) : (s.modWindow id f).svc = s.svc := rfl
@[simp] theorem State.modWindow_ho (s : State) (id : Nat) (f : Window → Window) : (s.modWindow id f).ho = s.ho := rfl
@[simp] theorem State.modWindow_pag (s : State) (id : Nat) (f : Window → Window) : (s.modWindow id f).pag = s.pag := rfl
@[simp] theorem State.modWindow_calls (s : State) (id : Nat) (f : Window → Window) : (s.modWindow id f).calls = s.calls := rfl
@[simp] theorem State.modWindow_text (s : State) (id : Nat) (f : Window → Window) : (s.modWindow id f).text = s.text := rfl
@[simp] theorem State.modWindow_agenda (s : State) (id : Nat) (f : Window → Window) : (s.modWindow id f).agenda = s.agenda := rfl
@[simp] theorem State.modWindow_freeCount (s : State) (id : Nat) (f : Window → Window) : (s.modWindow id f).freeCount = s.freeCount := rfl
@[simp] theorem State.modWindow_pending (s : State) (id : Nat) (f : Window → Window) : (s.modWindow id f).pending = s.pending := rfl

/-! `reportWindow` -/

@[simp] theorem State.reportWindow_agenda (s : State) (w : Window) (r : Report) :
    (s.reportWindow w r).agenda = s.agenda ++ [.report w.owner w.kind w.id r] := rfl
@[simp] theorem State.reportWindow_inReset (s : State) (w : Window) (r : Report) : (s.reportWindow w r).inReset = s.inReset := rfl
@[simp] theorem State.reportWindow_line (s : State) (w : Window) (r : Report) : (s.reportWindow w r).line = s.line := rfl
@[simp] theorem State.reportWindow_cmd (s : State) (w : Window) (r : Report) : (s.reportWindow w r).cmd = s.cmd := rfl
@[simp] theorem State.reportWindow_air (s : State) (w : Window) (r : Report) : (s.reportWindow w r).air = s.air := rfl
@[simp] theorem State.reportWindow_meas (s : State) (w : Window) (r : Report) : (s.reportWindow w r).meas = s.meas := rfl
@[simp] theorem State.reportWindow_svc (s : State) (w : Window) (r : Report) : (s.reportWindow w r).svc = s.svc := rfl
@[simp] theorem State.reportWindow_ho (s : State) (w : Window) (r : Report) : (s.reportWindow w r).ho = s.ho := rfl
@[simp] theorem State.reportWindow_pag (s : State) (w : Window) (r : Report) : (s.reportWindow w r).pag = s.pag := rfl
@[simp] theorem State.reportWindow_calls (s : State) (w : Window) (r : Report) : (s.reportWindow w r).calls = s.calls := rfl
@[simp] theorem State.reportWindow_text (s : State) (w : Window) (r : Report) : (s.reportWindow w r).text = s.text := rfl
@[simp] theorem State.reportWindow_freeCount (s : State) (w : Window) (r : Report) : (s.reportWindow w r).freeCount = s.freeCount := rfl
@[simp] theorem State.reportWindow_pending (s : State) (w : Window) (r : Report) : (s.reportWindow w r).pending = s.pending := rfl

/-! `modCell` -/

@[simp] theorem State.modCell_meas (s : State) (k : CellKey) (f : Cell → Cell) :
    (s.modCell k f).meas = { s.meas with cells := s.meas.cells.map fun c => if c.key == k then f c else c } := rfl
@[simp] theorem State.modCell_inReset (s : State) (k : CellKey) (f : Cell → Cell) : (s.modCell k f).inReset = s.inReset := rfl
@[simp] theorem State.modCell_line (s : State) (k : CellKey) (f : Cell → Cell) : (s.modCell k f).line = s.line := rfl
@[simp] theorem State.modCell_cmd (s : State) (k : CellKey) (f : Cell → Cell) : (s.modCell k f).cmd = s.cmd := rfl
@[simp] theorem State.modCell_air (s : State) (k : CellKey) (f : Cell → Cell) : (s.modCell k f).air = s.air := rfl
@[simp] theorem State.modCell_svc (s : State) (k : CellKey) (f : Cell → Cell) : (s.modCell k f).svc = s.svc := rfl
@[simp] theorem State.modCell_ho (s : State) (k : CellKey) (f : Cell → Cell) : (s.modCell k f).ho = s.ho := rfl
@[simp] theorem State.modCell_pag (s : State) (k : CellKey) (f : Cell → Cell) : (s.modCell k f).pag = s.pag := rfl
@[simp] theorem State.modCell_calls (s : State) (k : CellKey) (f : Cell → Cell) : (s.modCell k f).calls = s.calls := rfl
@[simp] theorem State.modCell_text (s : State) (k : CellKey) (f : Cell → Cell) : (s.modCell k f).text = s.text := rfl
@[simp] theorem State.modCell_agenda (s : State) (k : CellKey) (f : Cell → Cell) : (s.modCell k f).agenda = s.agenda := rfl
@[simp] theorem State.modCell_freeCount (s : State) (k : CellKey) (f : Cell → Cell) : (s.modCell k f).freeCount = s.freeCount := rfl
@[simp] theorem State.modCell_pending (s : State) (k : CellKey) (f : Cell → Cell) : (s.modCell k f).pending = s.pending := rfl

/-! `addCell` -/

@[simp] theorem State.addCell_meas (s : State) (c : Cell) :
    (s.addCell c).meas = { s.meas with cells := s.meas.cells ++ [c] } := rfl
@[simp] theorem State.addCell_inReset (s : State) (c : Cell) : (s.addCell c).inReset = s.inReset := rfl
@[simp] theorem State.addCell_line (s : State) (c : Cell) : (s.addCell c).line = s.line := rfl
@[simp] theorem State.addCell_cmd (s : State) (c : Cell) : (s.addCell c).cmd = s.cmd := rfl
@[simp] theorem State.addCell_air (s : State) (c : Cell) : (s.addCell c).air = s.air := rfl
@[simp] theorem State.addCell_svc (s : State) (c : Cell) : (s.addCell c).svc = s.svc := rfl
@[simp] theorem State.addCell_ho (s : State) (c : Cell) : (s.addCell c).ho = s.ho := rfl
@[simp] theorem State.addCell_pag (s : State) (c : Cell) : (s.addCell c).pag = s.pag := rfl
@[simp] theorem State.addCell_calls (s : State) (c : Cell) : (s.addCell c).calls = s.calls := rfl
@[simp] theorem State.addCell_text (s : State) (c : Cell) : (s.addCell c).text = s.text := rfl
@[simp] theorem State.addCell_agenda (s : State) (c : Cell) : (s.addCell c).agenda = s.agenda := rfl
@[simp] theorem State.addCell_freeCount (s : State) (c : Cell) : (s.addCell c).freeCount = s.freeCount := rfl
@[simp] theorem State.addCell_pending (s : State) (c : Cell) : (s.addCell c).pending = s.pending := rfl

/-! `penalise` -/

@[simp] theorem State.penalise_inReset (s : State) (k : CellKey) : (s.penalise k).inReset = s.inReset := rfl
@[simp] theorem State.penalise_line (s : State) (k : CellKey) : (s.penalise k).line = s.line := rfl
@[simp] theorem State.penalise_cmd (s : State) (k : CellKey) : (s.penalise k).cmd = s.cmd := rfl
@[simp] theorem State.penalise_air (s : State) (k : CellKey) : (s.penalise k).air = s.air := rfl
@[simp] theorem State.penalise_svc (s : State) (k : CellKey) : (s.penalise k).svc = s.svc := rfl
@[simp] theorem State.penalise_ho (s : State) (k : CellKey) : (s.penalise k).ho = s.ho := rfl
@[simp] theorem State.penalise_pag (s : State) (k : CellKey) : (s.penalise k).pag = s.pag := rfl
@[simp] theorem State.penalise_calls (s : State) (k : CellKey) : (s.penalise k).calls = s.calls := rfl
@[simp] theorem State.penalise_text (s : State) (k : CellKey) : (s.penalise k).text = s.text := rfl
@[simp] theorem State.penalise_agenda (s : State) (k : CellKey) : (s.penalise k).agenda = s.agenda := rfl
@[simp] theorem State.penalise_freeCount (s : State) (k : CellKey) : (s.penalise k).freeCount = s.freeCount := rfl
@[simp] theorem State.penalise_pending (s : State) (k : CellKey) : (s.penalise k).pending = s.pending := rfl

/-! `modRound` -/

@[simp] theorem State.modRound_meas (s : State) (id : Nat) (f : Round → Round) :
    (s.modRound id f).meas = { s.meas with rounds := s.meas.rounds.map fun r => if r.id == id then f r else r } := rfl
@[simp] theorem State.modRound_inReset (s : State) (id : Nat) (f : Round → Round) : (s.modRound id f).inReset = s.inReset := rfl
@[simp] theorem State.modRound_line (s : State) (id : Nat) (f : Round → Round) : (s.modRound id f).line = s.line := rfl
@[simp] theorem State.modRound_cmd (s : State) (id : Nat) (f : Round → Round) : (s.modRound id f).cmd = s.cmd := rfl
@[simp] theorem State.modRound_air (s : State) (id : Nat) (f : Round → Round) : (s.modRound id f).air = s.air := rfl
@[simp] theorem State.modRound_svc (s : State) (id : Nat) (f : Round → Round) : (s.modRound id f).svc = s.svc := rfl
@[simp] theorem State.modRound_ho (s : State) (id : Nat) (f : Round → Round) : (s.modRound id f).ho = s.ho := rfl
@[simp] theorem State.modRound_pag (s : State) (id : Nat) (f : Round → Round) : (s.modRound id f).pag = s.pag := rfl
@[simp] theorem State.modRound_calls (s : State) (id : Nat) (f : Round → Round) : (s.modRound id f).calls = s.calls := rfl
@[simp] theorem State.modRound_text (s : State) (id : Nat) (f : Round → Round) : (s.modRound id f).text = s.text := rfl
@[simp] theorem State.modRound_agenda (s : State) (id : Nat) (f : Round → Round) : (s.modRound id f).agenda = s.agenda := rfl
@[simp] theorem State.modRound_freeCount (s : State) (id : Nat) (f : Round → Round) : (s.modRound id f).freeCount = s.freeCount := rfl
@[simp] theorem State.modRound_pending (s : State) (id : Nat) (f : Round → Round) : (s.modRound id f).pending = s.pending := rfl

/-! `demoteServing` -/

@[simp] theorem State.demoteServing_meas (s : State) :
    s.demoteServing.meas = { s.meas with cells := s.meas.cells.map Cell.demoted } := rfl
@[simp] theorem State.demoteServing_inReset (s : State) : s.demoteServing.inReset = s.inReset := rfl
@[simp] theorem State.demoteServing_line (s : State) : s.demoteServing.line = s.line := rfl
@[simp] theorem State.demoteServing_cmd (s : State) : s.demoteServing.cmd = s.cmd := rfl
@[simp] theorem State.demoteServing_air (s : State) : s.demoteServing.air = s.air := rfl
@[simp] theorem State.demoteServing_svc (s : State) : s.demoteServing.svc = s.svc := rfl
@[simp] theorem State.demoteServing_ho (s : State) : s.demoteServing.ho = s.ho := rfl
@[simp] theorem State.demoteServing_pag (s : State) : s.demoteServing.pag = s.pag := rfl
@[simp] theorem State.demoteServing_calls (s : State) : s.demoteServing.calls = s.calls := rfl
@[simp] theorem State.demoteServing_text (s : State) : s.demoteServing.text = s.text := rfl
@[simp] theorem State.demoteServing_agenda (s : State) : s.demoteServing.agenda = s.agenda := rfl
@[simp] theorem State.demoteServing_freeCount (s : State) : s.demoteServing.freeCount = s.freeCount := rfl
@[simp] theorem State.demoteServing_pending (s : State) : s.demoteServing.pending = s.pending := rfl

/-! `modScan` -/

@[simp] theorem State.modScan_svc (s : State) (f : Scan → Scan) :
    (s.modScan f).svc = { s.svc with scan := s.svc.scan.map f } := rfl
@[simp] theorem State.modScan_inReset (s : State) (f : Scan → Scan) : (s.modScan f).inReset = s.inReset := rfl
@[simp] theorem State.modScan_line (s : State) (f : Scan → Scan) : (s.modScan f).line = s.line := rfl
@[simp] theorem State.modScan_cmd (s : State) (f : Scan → Scan) : (s.modScan f).cmd = s.cmd := rfl
@[simp] theorem State.modScan_air (s : State) (f : Scan → Scan) : (s.modScan f).air = s.air := rfl
@[simp] theorem State.modScan_meas (s : State) (f : Scan → Scan) : (s.modScan f).meas = s.meas := rfl
@[simp] theorem State.modScan_ho (s : State) (f : Scan → Scan) : (s.modScan f).ho = s.ho := rfl
@[simp] theorem State.modScan_pag (s : State) (f : Scan → Scan) : (s.modScan f).pag = s.pag := rfl
@[simp] theorem State.modScan_calls (s : State) (f : Scan → Scan) : (s.modScan f).calls = s.calls := rfl
@[simp] theorem State.modScan_text (s : State) (f : Scan → Scan) : (s.modScan f).text = s.text := rfl
@[simp] theorem State.modScan_agenda (s : State) (f : Scan → Scan) : (s.modScan f).agenda = s.agenda := rfl
@[simp] theorem State.modScan_freeCount (s : State) (f : Scan → Scan) : (s.modScan f).freeCount = s.freeCount := rfl
@[simp] theorem State.modScan_pending (s : State) (f : Scan → Scan) : (s.modScan f).pending = s.pending := rfl

/-! `doubleBackoff` -/

@[simp] theorem State.doubleBackoff_svc (s : State) :
    s.doubleBackoff.svc = { s.svc with backoff := min 1048576 (2 * s.svc.backoff) } := rfl
@[simp] theorem State.doubleBackoff_inReset (s : State) : s.doubleBackoff.inReset = s.inReset := rfl
@[simp] theorem State.doubleBackoff_line (s : State) : s.doubleBackoff.line = s.line := rfl
@[simp] theorem State.doubleBackoff_cmd (s : State) : s.doubleBackoff.cmd = s.cmd := rfl
@[simp] theorem State.doubleBackoff_air (s : State) : s.doubleBackoff.air = s.air := rfl
@[simp] theorem State.doubleBackoff_meas (s : State) : s.doubleBackoff.meas = s.meas := rfl
@[simp] theorem State.doubleBackoff_ho (s : State) : s.doubleBackoff.ho = s.ho := rfl
@[simp] theorem State.doubleBackoff_pag (s : State) : s.doubleBackoff.pag = s.pag := rfl
@[simp] theorem State.doubleBackoff_calls (s : State) : s.doubleBackoff.calls = s.calls := rfl
@[simp] theorem State.doubleBackoff_text (s : State) : s.doubleBackoff.text = s.text := rfl
@[simp] theorem State.doubleBackoff_agenda (s : State) : s.doubleBackoff.agenda = s.agenda := rfl
@[simp] theorem State.doubleBackoff_freeCount (s : State) : s.doubleBackoff.freeCount = s.freeCount := rfl
@[simp] theorem State.doubleBackoff_pending (s : State) : s.doubleBackoff.pending = s.pending := rfl

/-! `modCamp` -/

@[simp] theorem State.modCamp_svc (s : State) (f : Camp → Camp) :
    (s.modCamp f).svc = { s.svc with camp := s.svc.camp.map f } := rfl
@[simp] theorem State.modCamp_inReset (s : State) (f : Camp → Camp) : (s.modCamp f).inReset = s.inReset := rfl
@[simp] theorem State.modCamp_line (s : State) (f : Camp → Camp) : (s.modCamp f).line = s.line := rfl
@[simp] theorem State.modCamp_cmd (s : State) (f : Camp → Camp) : (s.modCamp f).cmd = s.cmd := rfl
@[simp] theorem State.modCamp_air (s : State) (f : Camp → Camp) : (s.modCamp f).air = s.air := rfl
@[simp] theorem State.modCamp_meas (s : State) (f : Camp → Camp) : (s.modCamp f).meas = s.meas := rfl
@[simp] theorem State.modCamp_ho (s : State) (f : Camp → Camp) : (s.modCamp f).ho = s.ho := rfl
@[simp] theorem State.modCamp_pag (s : State) (f : Camp → Camp) : (s.modCamp f).pag = s.pag := rfl
@[simp] theorem State.modCamp_calls (s : State) (f : Camp → Camp) : (s.modCamp f).calls = s.calls := rfl
@[simp] theorem State.modCamp_text (s : State) (f : Camp → Camp) : (s.modCamp f).text = s.text := rfl
@[simp] theorem State.modCamp_agenda (s : State) (f : Camp → Camp) : (s.modCamp f).agenda = s.agenda := rfl
@[simp] theorem State.modCamp_freeCount (s : State) (f : Camp → Camp) : (s.modCamp f).freeCount = s.freeCount := rfl
@[simp] theorem State.modCamp_pending (s : State) (f : Camp → Camp) : (s.modCamp f).pending = s.pending := rfl

/-! `modConn` -/

@[simp] theorem State.modConn_svc (s : State) (f : Conn → Conn) : (s.modConn f).svc = { s.svc with conn := f s.svc.conn } := rfl
@[simp] theorem State.modConn_inReset (s : State) (f : Conn → Conn) : (s.modConn f).inReset = s.inReset := rfl
@[simp] theorem State.modConn_line (s : State) (f : Conn → Conn) : (s.modConn f).line = s.line := rfl
@[simp] theorem State.modConn_cmd (s : State) (f : Conn → Conn) : (s.modConn f).cmd = s.cmd := rfl
@[simp] theorem State.modConn_air (s : State) (f : Conn → Conn) : (s.modConn f).air = s.air := rfl
@[simp] theorem State.modConn_meas (s : State) (f : Conn → Conn) : (s.modConn f).meas = s.meas := rfl
@[simp] theorem State.modConn_ho (s : State) (f : Conn → Conn) : (s.modConn f).ho = s.ho := rfl
@[simp] theorem State.modConn_pag (s : State) (f : Conn → Conn) : (s.modConn f).pag = s.pag := rfl
@[simp] theorem State.modConn_calls (s : State) (f : Conn → Conn) : (s.modConn f).calls = s.calls := rfl
@[simp] theorem State.modConn_text (s : State) (f : Conn → Conn) : (s.modConn f).text = s.text := rfl
@[simp] theorem State.modConn_agenda (s : State) (f : Conn → Conn) : (s.modConn f).agenda = s.agenda := rfl
@[simp] theorem State.modConn_freeCount (s : State) (f : Conn → Conn) : (s.modConn f).freeCount = s.freeCount := rfl
@[simp] theorem State.modConn_pending (s : State) (f : Conn → Conn) : (s.modConn f).pending = s.pending := rfl

/-! `modTraffic` -/

@[simp] theorem State.modTraffic_svc (s : State) (f : Traffic → Traffic) :
    (s.modTraffic f).svc = { s.svc with traffic := f s.svc.traffic } := rfl
@[simp] theorem State.modTraffic_inReset (s : State) (f : Traffic → Traffic) : (s.modTraffic f).inReset = s.inReset := rfl
@[simp] theorem State.modTraffic_line (s : State) (f : Traffic → Traffic) : (s.modTraffic f).line = s.line := rfl
@[simp] theorem State.modTraffic_cmd (s : State) (f : Traffic → Traffic) : (s.modTraffic f).cmd = s.cmd := rfl
@[simp] theorem State.modTraffic_air (s : State) (f : Traffic → Traffic) : (s.modTraffic f).air = s.air := rfl
@[simp] theorem State.modTraffic_meas (s : State) (f : Traffic → Traffic) : (s.modTraffic f).meas = s.meas := rfl
@[simp] theorem State.modTraffic_ho (s : State) (f : Traffic → Traffic) : (s.modTraffic f).ho = s.ho := rfl
@[simp] theorem State.modTraffic_pag (s : State) (f : Traffic → Traffic) : (s.modTraffic f).pag = s.pag := rfl
@[simp] theorem State.modTraffic_calls (s : State) (f : Traffic → Traffic) : (s.modTraffic f).calls = s.calls := rfl
@[simp] theorem State.modTraffic_text (s : State) (f : Traffic → Traffic) : (s.modTraffic f).text = s.text := rfl
@[simp] theorem State.modTraffic_agenda (s : State) (f : Traffic → Traffic) : (s.modTraffic f).agenda = s.agenda := rfl
@[simp] theorem State.modTraffic_freeCount (s : State) (f : Traffic → Traffic) : (s.modTraffic f).freeCount = s.freeCount := rfl
@[simp] theorem State.modTraffic_pending (s : State) (f : Traffic → Traffic) : (s.modTraffic f).pending = s.pending := rfl

/-! `chunkActive` -/

@[simp] theorem State.chunkActive_svc (s : State) :
    s.chunkActive.svc = { s.svc with traffic := { s.svc.traffic with accrued := 0, since := none, gapFlag := false } } := rfl
@[simp] theorem State.chunkActive_inReset (s : State) : s.chunkActive.inReset = s.inReset := rfl
@[simp] theorem State.chunkActive_line (s : State) : s.chunkActive.line = s.line := rfl
@[simp] theorem State.chunkActive_cmd (s : State) : s.chunkActive.cmd = s.cmd := rfl
@[simp] theorem State.chunkActive_air (s : State) : s.chunkActive.air = s.air := rfl
@[simp] theorem State.chunkActive_meas (s : State) : s.chunkActive.meas = s.meas := rfl
@[simp] theorem State.chunkActive_ho (s : State) : s.chunkActive.ho = s.ho := rfl
@[simp] theorem State.chunkActive_pag (s : State) : s.chunkActive.pag = s.pag := rfl
@[simp] theorem State.chunkActive_calls (s : State) : s.chunkActive.calls = s.calls := rfl
@[simp] theorem State.chunkActive_text (s : State) : s.chunkActive.text = s.text := rfl
@[simp] theorem State.chunkActive_agenda (s : State) : s.chunkActive.agenda = s.agenda := rfl
@[simp] theorem State.chunkActive_freeCount (s : State) : s.chunkActive.freeCount = s.freeCount := rfl
@[simp] theorem State.chunkActive_pending (s : State) : s.chunkActive.pending = s.pending := rfl

/-! `modSwitch` -/

@[simp] theorem State.modSwitch_ho (s : State) (f : Switch → Switch) :
    (s.modSwitch f).ho = { s.ho with switch := s.ho.switch.map f } := rfl
@[simp] theorem State.modSwitch_inReset (s : State) (f : Switch → Switch) : (s.modSwitch f).inReset = s.inReset := rfl
@[simp] theorem State.modSwitch_line (s : State) (f : Switch → Switch) : (s.modSwitch f).line = s.line := rfl
@[simp] theorem State.modSwitch_cmd (s : State) (f : Switch → Switch) : (s.modSwitch f).cmd = s.cmd := rfl
@[simp] theorem State.modSwitch_air (s : State) (f : Switch → Switch) : (s.modSwitch f).air = s.air := rfl
@[simp] theorem State.modSwitch_meas (s : State) (f : Switch → Switch) : (s.modSwitch f).meas = s.meas := rfl
@[simp] theorem State.modSwitch_svc (s : State) (f : Switch → Switch) : (s.modSwitch f).svc = s.svc := rfl
@[simp] theorem State.modSwitch_pag (s : State) (f : Switch → Switch) : (s.modSwitch f).pag = s.pag := rfl
@[simp] theorem State.modSwitch_calls (s : State) (f : Switch → Switch) : (s.modSwitch f).calls = s.calls := rfl
@[simp] theorem State.modSwitch_text (s : State) (f : Switch → Switch) : (s.modSwitch f).text = s.text := rfl
@[simp] theorem State.modSwitch_agenda (s : State) (f : Switch → Switch) : (s.modSwitch f).agenda = s.agenda := rfl
@[simp] theorem State.modSwitch_freeCount (s : State) (f : Switch → Switch) : (s.modSwitch f).freeCount = s.freeCount := rfl
@[simp] theorem State.modSwitch_pending (s : State) (f : Switch → Switch) : (s.modSwitch f).pending = s.pending := rfl

/-! `dropSwitch` -/

@[simp] theorem State.dropSwitch_ho (s : State) : s.dropSwitch.ho = { s.ho with switch := none } := rfl
@[simp] theorem State.dropSwitch_inReset (s : State) : s.dropSwitch.inReset = s.inReset := rfl
@[simp] theorem State.dropSwitch_line (s : State) : s.dropSwitch.line = s.line := rfl
@[simp] theorem State.dropSwitch_cmd (s : State) : s.dropSwitch.cmd = s.cmd := rfl
@[simp] theorem State.dropSwitch_air (s : State) : s.dropSwitch.air = s.air := rfl
@[simp] theorem State.dropSwitch_meas (s : State) : s.dropSwitch.meas = s.meas := rfl
@[simp] theorem State.dropSwitch_svc (s : State) : s.dropSwitch.svc = s.svc := rfl
@[simp] theorem State.dropSwitch_pag (s : State) : s.dropSwitch.pag = s.pag := rfl
@[simp] theorem State.dropSwitch_calls (s : State) : s.dropSwitch.calls = s.calls := rfl
@[simp] theorem State.dropSwitch_text (s : State) : s.dropSwitch.text = s.text := rfl
@[simp] theorem State.dropSwitch_agenda (s : State) : s.dropSwitch.agenda = s.agenda := rfl
@[simp] theorem State.dropSwitch_freeCount (s : State) : s.dropSwitch.freeCount = s.freeCount := rfl
@[simp] theorem State.dropSwitch_pending (s : State) : s.dropSwitch.pending = s.pending := rfl

/-! `discardUplink` -/

@[simp] theorem State.discardUplink_ho (s : State) : s.discardUplink.ho = { s.ho with uplink := [] } := rfl
@[simp] theorem State.discardUplink_inReset (s : State) : s.discardUplink.inReset = s.inReset := rfl
@[simp] theorem State.discardUplink_line (s : State) : s.discardUplink.line = s.line := rfl
@[simp] theorem State.discardUplink_cmd (s : State) : s.discardUplink.cmd = s.cmd := rfl
@[simp] theorem State.discardUplink_air (s : State) : s.discardUplink.air = s.air := rfl
@[simp] theorem State.discardUplink_meas (s : State) : s.discardUplink.meas = s.meas := rfl
@[simp] theorem State.discardUplink_svc (s : State) : s.discardUplink.svc = s.svc := rfl
@[simp] theorem State.discardUplink_pag (s : State) : s.discardUplink.pag = s.pag := rfl
@[simp] theorem State.discardUplink_calls (s : State) : s.discardUplink.calls = s.calls := rfl
@[simp] theorem State.discardUplink_text (s : State) : s.discardUplink.text = s.text := rfl
@[simp] theorem State.discardUplink_agenda (s : State) : s.discardUplink.agenda = s.agenda := rfl
@[simp] theorem State.discardUplink_freeCount (s : State) : s.discardUplink.freeCount = s.freeCount := rfl
@[simp] theorem State.discardUplink_pending (s : State) : s.discardUplink.pending = s.pending := rfl

/-! `addCycle` -/

@[simp] theorem State.addCycle_pag (s : State) (c : Cycle) :
    (s.addCycle c).pag = { s.pag with cycles := s.pag.cycles ++ [c] } := rfl
@[simp] theorem State.addCycle_inReset (s : State) (c : Cycle) : (s.addCycle c).inReset = s.inReset := rfl
@[simp] theorem State.addCycle_line (s : State) (c : Cycle) : (s.addCycle c).line = s.line := rfl
@[simp] theorem State.addCycle_cmd (s : State) (c : Cycle) : (s.addCycle c).cmd = s.cmd := rfl
@[simp] theorem State.addCycle_air (s : State) (c : Cycle) : (s.addCycle c).air = s.air := rfl
@[simp] theorem State.addCycle_meas (s : State) (c : Cycle) : (s.addCycle c).meas = s.meas := rfl
@[simp] theorem State.addCycle_svc (s : State) (c : Cycle) : (s.addCycle c).svc = s.svc := rfl
@[simp] theorem State.addCycle_ho (s : State) (c : Cycle) : (s.addCycle c).ho = s.ho := rfl
@[simp] theorem State.addCycle_calls (s : State) (c : Cycle) : (s.addCycle c).calls = s.calls := rfl
@[simp] theorem State.addCycle_text (s : State) (c : Cycle) : (s.addCycle c).text = s.text := rfl
@[simp] theorem State.addCycle_agenda (s : State) (c : Cycle) : (s.addCycle c).agenda = s.agenda := rfl
@[simp] theorem State.addCycle_freeCount (s : State) (c : Cycle) : (s.addCycle c).freeCount = s.freeCount := rfl
@[simp] theorem State.addCycle_pending (s : State) (c : Cycle) : (s.addCycle c).pending = s.pending := rfl

/-! `setRounds` -/

@[simp] theorem State.setRounds_pag (s : State) (n : Nat) : (s.setRounds n).pag = { s.pag with roundsSinceFull := n } := rfl
@[simp] theorem State.setRounds_inReset (s : State) (n : Nat) : (s.setRounds n).inReset = s.inReset := rfl
@[simp] theorem State.setRounds_line (s : State) (n : Nat) : (s.setRounds n).line = s.line := rfl
@[simp] theorem State.setRounds_cmd (s : State) (n : Nat) : (s.setRounds n).cmd = s.cmd := rfl
@[simp] theorem State.setRounds_air (s : State) (n : Nat) : (s.setRounds n).air = s.air := rfl
@[simp] theorem State.setRounds_meas (s : State) (n : Nat) : (s.setRounds n).meas = s.meas := rfl
@[simp] theorem State.setRounds_svc (s : State) (n : Nat) : (s.setRounds n).svc = s.svc := rfl
@[simp] theorem State.setRounds_ho (s : State) (n : Nat) : (s.setRounds n).ho = s.ho := rfl
@[simp] theorem State.setRounds_calls (s : State) (n : Nat) : (s.setRounds n).calls = s.calls := rfl
@[simp] theorem State.setRounds_text (s : State) (n : Nat) : (s.setRounds n).text = s.text := rfl
@[simp] theorem State.setRounds_agenda (s : State) (n : Nat) : (s.setRounds n).agenda = s.agenda := rfl
@[simp] theorem State.setRounds_freeCount (s : State) (n : Nat) : (s.setRounds n).freeCount = s.freeCount := rfl
@[simp] theorem State.setRounds_pending (s : State) (n : Nat) : (s.setRounds n).pending = s.pending := rfl

/-! `fullPlaced` -/

@[simp] theorem State.fullPlaced_pag (s : State) (id : Nat) :
    (s.fullPlaced id).pag = { s.pag with roundsSinceFull := 0, fullMeasures := s.pag.fullMeasures ++ [id] } := rfl
@[simp] theorem State.fullPlaced_inReset (s : State) (id : Nat) : (s.fullPlaced id).inReset = s.inReset := rfl
@[simp] theorem State.fullPlaced_line (s : State) (id : Nat) : (s.fullPlaced id).line = s.line := rfl
@[simp] theorem State.fullPlaced_cmd (s : State) (id : Nat) : (s.fullPlaced id).cmd = s.cmd := rfl
@[simp] theorem State.fullPlaced_air (s : State) (id : Nat) : (s.fullPlaced id).air = s.air := rfl
@[simp] theorem State.fullPlaced_meas (s : State) (id : Nat) : (s.fullPlaced id).meas = s.meas := rfl
@[simp] theorem State.fullPlaced_svc (s : State) (id : Nat) : (s.fullPlaced id).svc = s.svc := rfl
@[simp] theorem State.fullPlaced_ho (s : State) (id : Nat) : (s.fullPlaced id).ho = s.ho := rfl
@[simp] theorem State.fullPlaced_calls (s : State) (id : Nat) : (s.fullPlaced id).calls = s.calls := rfl
@[simp] theorem State.fullPlaced_text (s : State) (id : Nat) : (s.fullPlaced id).text = s.text := rfl
@[simp] theorem State.fullPlaced_agenda (s : State) (id : Nat) : (s.fullPlaced id).agenda = s.agenda := rfl
@[simp] theorem State.fullPlaced_freeCount (s : State) (id : Nat) : (s.fullPlaced id).freeCount = s.freeCount := rfl
@[simp] theorem State.fullPlaced_pending (s : State) (id : Nat) : (s.fullPlaced id).pending = s.pending := rfl

/-! `modCycle` -/

@[simp] theorem State.modCycle_pag (s : State) (p : Cycle → Bool) (f : Cycle → Cycle) :
    (s.modCycle p f).pag = { s.pag with cycles := s.pag.cycles.map fun c => if p c then f c else c } := rfl
@[simp] theorem State.modCycle_inReset (s : State) (p : Cycle → Bool) (f : Cycle → Cycle) : (s.modCycle p f).inReset = s.inReset := rfl
@[simp] theorem State.modCycle_line (s : State) (p : Cycle → Bool) (f : Cycle → Cycle) : (s.modCycle p f).line = s.line := rfl
@[simp] theorem State.modCycle_cmd (s : State) (p : Cycle → Bool) (f : Cycle → Cycle) : (s.modCycle p f).cmd = s.cmd := rfl
@[simp] theorem State.modCycle_air (s : State) (p : Cycle → Bool) (f : Cycle → Cycle) : (s.modCycle p f).air = s.air := rfl
@[simp] theorem State.modCycle_meas (s : State) (p : Cycle → Bool) (f : Cycle → Cycle) : (s.modCycle p f).meas = s.meas := rfl
@[simp] theorem State.modCycle_svc (s : State) (p : Cycle → Bool) (f : Cycle → Cycle) : (s.modCycle p f).svc = s.svc := rfl
@[simp] theorem State.modCycle_ho (s : State) (p : Cycle → Bool) (f : Cycle → Cycle) : (s.modCycle p f).ho = s.ho := rfl
@[simp] theorem State.modCycle_calls (s : State) (p : Cycle → Bool) (f : Cycle → Cycle) : (s.modCycle p f).calls = s.calls := rfl
@[simp] theorem State.modCycle_text (s : State) (p : Cycle → Bool) (f : Cycle → Cycle) : (s.modCycle p f).text = s.text := rfl
@[simp] theorem State.modCycle_agenda (s : State) (p : Cycle → Bool) (f : Cycle → Cycle) : (s.modCycle p f).agenda = s.agenda := rfl
@[simp] theorem State.modCycle_freeCount (s : State) (p : Cycle → Bool) (f : Cycle → Cycle) : (s.modCycle p f).freeCount = s.freeCount := rfl
@[simp] theorem State.modCycle_pending (s : State) (p : Cycle → Bool) (f : Cycle → Cycle) : (s.modCycle p f).pending = s.pending := rfl

/-! `dropOver` -/

@[simp] theorem State.dropOver_pag (s : State) :
    s.dropOver.pag = { s.pag with cycles := s.pag.cycles.filter fun c => !c.over } := rfl
@[simp] theorem State.dropOver_inReset (s : State) : s.dropOver.inReset = s.inReset := rfl
@[simp] theorem State.dropOver_line (s : State) : s.dropOver.line = s.line := rfl
@[simp] theorem State.dropOver_cmd (s : State) : s.dropOver.cmd = s.cmd := rfl
@[simp] theorem State.dropOver_air (s : State) : s.dropOver.air = s.air := rfl
@[simp] theorem State.dropOver_meas (s : State) : s.dropOver.meas = s.meas := rfl
@[simp] theorem State.dropOver_svc (s : State) : s.dropOver.svc = s.svc := rfl
@[simp] theorem State.dropOver_ho (s : State) : s.dropOver.ho = s.ho := rfl
@[simp] theorem State.dropOver_calls (s : State) : s.dropOver.calls = s.calls := rfl
@[simp] theorem State.dropOver_text (s : State) : s.dropOver.text = s.text := rfl
@[simp] theorem State.dropOver_agenda (s : State) : s.dropOver.agenda = s.agenda := rfl
@[simp] theorem State.dropOver_freeCount (s : State) : s.dropOver.freeCount = s.freeCount := rfl
@[simp] theorem State.dropOver_pending (s : State) : s.dropOver.pending = s.pending := rfl

/-! `modInfo` -/

@[simp] theorem State.modInfo_pag (s : State) (f : Info → Info) :
    (s.modInfo f).pag = { s.pag with info := s.pag.info.map f } := rfl
@[simp] theorem State.modInfo_inReset (s : State) (f : Info → Info) : (s.modInfo f).inReset = s.inReset := rfl
@[simp] theorem State.modInfo_line (s : State) (f : Info → Info) : (s.modInfo f).line = s.line := rfl
@[simp] theorem State.modInfo_cmd (s : State) (f : Info → Info) : (s.modInfo f).cmd = s.cmd := rfl
@[simp] theorem State.modInfo_air (s : State) (f : Info → Info) : (s.modInfo f).air = s.air := rfl
@[simp] theorem State.modInfo_meas (s : State) (f : Info → Info) : (s.modInfo f).meas = s.meas := rfl
@[simp] theorem State.modInfo_svc (s : State) (f : Info → Info) : (s.modInfo f).svc = s.svc := rfl
@[simp] theorem State.modInfo_ho (s : State) (f : Info → Info) : (s.modInfo f).ho = s.ho := rfl
@[simp] theorem State.modInfo_calls (s : State) (f : Info → Info) : (s.modInfo f).calls = s.calls := rfl
@[simp] theorem State.modInfo_text (s : State) (f : Info → Info) : (s.modInfo f).text = s.text := rfl
@[simp] theorem State.modInfo_agenda (s : State) (f : Info → Info) : (s.modInfo f).agenda = s.agenda := rfl
@[simp] theorem State.modInfo_freeCount (s : State) (f : Info → Info) : (s.modInfo f).freeCount = s.freeCount := rfl
@[simp] theorem State.modInfo_pending (s : State) (f : Info → Info) : (s.modInfo f).pending = s.pending := rfl

/-! `modCall` -/

@[simp] theorem State.modCall_calls (s : State) (h : Nat) (f : Call → Call) :
    (s.modCall h f).calls = { s.calls with table := s.calls.table.map fun c => if c.handle == h then f c else c } := rfl
@[simp] theorem State.modCall_inReset (s : State) (h : Nat) (f : Call → Call) : (s.modCall h f).inReset = s.inReset := rfl
@[simp] theorem State.modCall_line (s : State) (h : Nat) (f : Call → Call) : (s.modCall h f).line = s.line := rfl
@[simp] theorem State.modCall_cmd (s : State) (h : Nat) (f : Call → Call) : (s.modCall h f).cmd = s.cmd := rfl
@[simp] theorem State.modCall_air (s : State) (h : Nat) (f : Call → Call) : (s.modCall h f).air = s.air := rfl
@[simp] theorem State.modCall_meas (s : State) (h : Nat) (f : Call → Call) : (s.modCall h f).meas = s.meas := rfl
@[simp] theorem State.modCall_svc (s : State) (h : Nat) (f : Call → Call) : (s.modCall h f).svc = s.svc := rfl
@[simp] theorem State.modCall_ho (s : State) (h : Nat) (f : Call → Call) : (s.modCall h f).ho = s.ho := rfl
@[simp] theorem State.modCall_pag (s : State) (h : Nat) (f : Call → Call) : (s.modCall h f).pag = s.pag := rfl
@[simp] theorem State.modCall_text (s : State) (h : Nat) (f : Call → Call) : (s.modCall h f).text = s.text := rfl
@[simp] theorem State.modCall_agenda (s : State) (h : Nat) (f : Call → Call) : (s.modCall h f).agenda = s.agenda := rfl
@[simp] theorem State.modCall_freeCount (s : State) (h : Nat) (f : Call → Call) : (s.modCall h f).freeCount = s.freeCount := rfl
@[simp] theorem State.modCall_pending (s : State) (h : Nat) (f : Call → Call) : (s.modCall h f).pending = s.pending := rfl

/-! `leavePair` -/

@[simp] theorem State.leavePair_calls (s : State) (h : Nat) :
    (s.leavePair h).calls = { s.calls with pair := s.calls.pair.bind (·.without h) } := rfl
@[simp] theorem State.leavePair_inReset (s : State) (h : Nat) : (s.leavePair h).inReset = s.inReset := rfl
@[simp] theorem State.leavePair_line (s : State) (h : Nat) : (s.leavePair h).line = s.line := rfl
@[simp] theorem State.leavePair_cmd (s : State) (h : Nat) : (s.leavePair h).cmd = s.cmd := rfl
@[simp] theorem State.leavePair_air (s : State) (h : Nat) : (s.leavePair h).air = s.air := rfl
@[simp] theorem State.leavePair_meas (s : State) (h : Nat) : (s.leavePair h).meas = s.meas := rfl
@[simp] theorem State.leavePair_svc (s : State) (h : Nat) : (s.leavePair h).svc = s.svc := rfl
@[simp] theorem State.leavePair_ho (s : State) (h : Nat) : (s.leavePair h).ho = s.ho := rfl
@[simp] theorem State.leavePair_pag (s : State) (h : Nat) : (s.leavePair h).pag = s.pag := rfl
@[simp] theorem State.leavePair_text (s : State) (h : Nat) : (s.leavePair h).text = s.text := rfl
@[simp] theorem State.leavePair_agenda (s : State) (h : Nat) : (s.leavePair h).agenda = s.agenda := rfl
@[simp] theorem State.leavePair_freeCount (s : State) (h : Nat) : (s.leavePair h).freeCount = s.freeCount := rfl
@[simp] theorem State.leavePair_pending (s : State) (h : Nat) : (s.leavePair h).pending = s.pending := rfl

/-! `clearDeferred` -/

@[simp] theorem State.clearDeferred_calls (s : State) : s.clearDeferred.calls = { s.calls with deferred := none } := rfl
@[simp] theorem State.clearDeferred_inReset (s : State) : s.clearDeferred.inReset = s.inReset := rfl
@[simp] theorem State.clearDeferred_line (s : State) : s.clearDeferred.line = s.line := rfl
@[simp] theorem State.clearDeferred_cmd (s : State) : s.clearDeferred.cmd = s.cmd := rfl
@[simp] theorem State.clearDeferred_air (s : State) : s.clearDeferred.air = s.air := rfl
@[simp] theorem State.clearDeferred_meas (s : State) : s.clearDeferred.meas = s.meas := rfl
@[simp] theorem State.clearDeferred_svc (s : State) : s.clearDeferred.svc = s.svc := rfl
@[simp] theorem State.clearDeferred_ho (s : State) : s.clearDeferred.ho = s.ho := rfl
@[simp] theorem State.clearDeferred_pag (s : State) : s.clearDeferred.pag = s.pag := rfl
@[simp] theorem State.clearDeferred_text (s : State) : s.clearDeferred.text = s.text := rfl
@[simp] theorem State.clearDeferred_agenda (s : State) : s.clearDeferred.agenda = s.agenda := rfl
@[simp] theorem State.clearDeferred_freeCount (s : State) : s.clearDeferred.freeCount = s.freeCount := rfl
@[simp] theorem State.clearDeferred_pending (s : State) : s.clearDeferred.pending = s.pending := rfl

/-! `callHoldTimers` -/

@[simp] theorem State.callHoldTimers_calls (s : State) :
    s.callHoldTimers.calls = { s.calls with
      timersHeld := true, table := s.calls.table.map fun c => { c with timer := c.timer.hold s.air.now } } := rfl
@[simp] theorem State.callHoldTimers_inReset (s : State) : s.callHoldTimers.inReset = s.inReset := rfl
@[simp] theorem State.callHoldTimers_line (s : State) : s.callHoldTimers.line = s.line := rfl
@[simp] theorem State.callHoldTimers_cmd (s : State) : s.callHoldTimers.cmd = s.cmd := rfl
@[simp] theorem State.callHoldTimers_air (s : State) : s.callHoldTimers.air = s.air := rfl
@[simp] theorem State.callHoldTimers_meas (s : State) : s.callHoldTimers.meas = s.meas := rfl
@[simp] theorem State.callHoldTimers_svc (s : State) : s.callHoldTimers.svc = s.svc := rfl
@[simp] theorem State.callHoldTimers_ho (s : State) : s.callHoldTimers.ho = s.ho := rfl
@[simp] theorem State.callHoldTimers_pag (s : State) : s.callHoldTimers.pag = s.pag := rfl
@[simp] theorem State.callHoldTimers_text (s : State) : s.callHoldTimers.text = s.text := rfl
@[simp] theorem State.callHoldTimers_agenda (s : State) : s.callHoldTimers.agenda = s.agenda := rfl
@[simp] theorem State.callHoldTimers_freeCount (s : State) : s.callHoldTimers.freeCount = s.freeCount := rfl
@[simp] theorem State.callHoldTimers_pending (s : State) : s.callHoldTimers.pending = s.pending := rfl

/-! `modSending` -/

@[simp] theorem State.modSending_text (s : State) (f : OutText → OutText) :
    (s.modSending f).text = { s.text with outbound := s.text.outbound.map fun o => if o.state == .sending then f o else o } := rfl
@[simp] theorem State.modSending_inReset (s : State) (f : OutText → OutText) : (s.modSending f).inReset = s.inReset := rfl
@[simp] theorem State.modSending_line (s : State) (f : OutText → OutText) : (s.modSending f).line = s.line := rfl
@[simp] theorem State.modSending_cmd (s : State) (f : OutText → OutText) : (s.modSending f).cmd = s.cmd := rfl
@[simp] theorem State.modSending_air (s : State) (f : OutText → OutText) : (s.modSending f).air = s.air := rfl
@[simp] theorem State.modSending_meas (s : State) (f : OutText → OutText) : (s.modSending f).meas = s.meas := rfl
@[simp] theorem State.modSending_svc (s : State) (f : OutText → OutText) : (s.modSending f).svc = s.svc := rfl
@[simp] theorem State.modSending_ho (s : State) (f : OutText → OutText) : (s.modSending f).ho = s.ho := rfl
@[simp] theorem State.modSending_pag (s : State) (f : OutText → OutText) : (s.modSending f).pag = s.pag := rfl
@[simp] theorem State.modSending_calls (s : State) (f : OutText → OutText) : (s.modSending f).calls = s.calls := rfl
@[simp] theorem State.modSending_agenda (s : State) (f : OutText → OutText) : (s.modSending f).agenda = s.agenda := rfl
@[simp] theorem State.modSending_freeCount (s : State) (f : OutText → OutText) : (s.modSending f).freeCount = s.freeCount := rfl
@[simp] theorem State.modSending_pending (s : State) (f : OutText → OutText) : (s.modSending f).pending = s.pending := rfl

/-! `modComposing` -/

@[simp] theorem State.modComposing_text (s : State) (f : OutText → OutText) :
    (s.modComposing f).text = { s.text with outbound := s.text.outbound.map fun o => if o.state == .composing then f o else o } := rfl
@[simp] theorem State.modComposing_inReset (s : State) (f : OutText → OutText) : (s.modComposing f).inReset = s.inReset := rfl
@[simp] theorem State.modComposing_line (s : State) (f : OutText → OutText) : (s.modComposing f).line = s.line := rfl
@[simp] theorem State.modComposing_cmd (s : State) (f : OutText → OutText) : (s.modComposing f).cmd = s.cmd := rfl
@[simp] theorem State.modComposing_air (s : State) (f : OutText → OutText) : (s.modComposing f).air = s.air := rfl
@[simp] theorem State.modComposing_meas (s : State) (f : OutText → OutText) : (s.modComposing f).meas = s.meas := rfl
@[simp] theorem State.modComposing_svc (s : State) (f : OutText → OutText) : (s.modComposing f).svc = s.svc := rfl
@[simp] theorem State.modComposing_ho (s : State) (f : OutText → OutText) : (s.modComposing f).ho = s.ho := rfl
@[simp] theorem State.modComposing_pag (s : State) (f : OutText → OutText) : (s.modComposing f).pag = s.pag := rfl
@[simp] theorem State.modComposing_calls (s : State) (f : OutText → OutText) : (s.modComposing f).calls = s.calls := rfl
@[simp] theorem State.modComposing_agenda (s : State) (f : OutText → OutText) : (s.modComposing f).agenda = s.agenda := rfl
@[simp] theorem State.modComposing_freeCount (s : State) (f : OutText → OutText) : (s.modComposing f).freeCount = s.freeCount := rfl
@[simp] theorem State.modComposing_pending (s : State) (f : OutText → OutText) : (s.modComposing f).pending = s.pending := rfl

/-! `dropComposing` -/

@[simp] theorem State.dropComposing_text (s : State) :
    s.dropComposing.text = { s.text with outbound := s.text.outbound.filter (·.state != .composing) } := rfl
@[simp] theorem State.dropComposing_inReset (s : State) : s.dropComposing.inReset = s.inReset := rfl
@[simp] theorem State.dropComposing_line (s : State) : s.dropComposing.line = s.line := rfl
@[simp] theorem State.dropComposing_cmd (s : State) : s.dropComposing.cmd = s.cmd := rfl
@[simp] theorem State.dropComposing_air (s : State) : s.dropComposing.air = s.air := rfl
@[simp] theorem State.dropComposing_meas (s : State) : s.dropComposing.meas = s.meas := rfl
@[simp] theorem State.dropComposing_svc (s : State) : s.dropComposing.svc = s.svc := rfl
@[simp] theorem State.dropComposing_ho (s : State) : s.dropComposing.ho = s.ho := rfl
@[simp] theorem State.dropComposing_pag (s : State) : s.dropComposing.pag = s.pag := rfl
@[simp] theorem State.dropComposing_calls (s : State) : s.dropComposing.calls = s.calls := rfl
@[simp] theorem State.dropComposing_agenda (s : State) : s.dropComposing.agenda = s.agenda := rfl
@[simp] theorem State.dropComposing_freeCount (s : State) : s.dropComposing.freeCount = s.freeCount := rfl
@[simp] theorem State.dropComposing_pending (s : State) : s.dropComposing.pending = s.pending := rfl

/-! `textHoldTimers` -/

@[simp] theorem State.textHoldTimers_text (s : State) :
    s.textHoldTimers.text = { s.text with
      timersHeld := true, ackWait := s.text.ackWait.hold s.air.now
      outbound := s.text.outbound.map fun o => { o with wait := o.wait.hold s.air.now } } := rfl
@[simp] theorem State.textHoldTimers_inReset (s : State) : s.textHoldTimers.inReset = s.inReset := rfl
@[simp] theorem State.textHoldTimers_line (s : State) : s.textHoldTimers.line = s.line := rfl
@[simp] theorem State.textHoldTimers_cmd (s : State) : s.textHoldTimers.cmd = s.cmd := rfl
@[simp] theorem State.textHoldTimers_air (s : State) : s.textHoldTimers.air = s.air := rfl
@[simp] theorem State.textHoldTimers_meas (s : State) : s.textHoldTimers.meas = s.meas := rfl
@[simp] theorem State.textHoldTimers_svc (s : State) : s.textHoldTimers.svc = s.svc := rfl
@[simp] theorem State.textHoldTimers_ho (s : State) : s.textHoldTimers.ho = s.ho := rfl
@[simp] theorem State.textHoldTimers_pag (s : State) : s.textHoldTimers.pag = s.pag := rfl
@[simp] theorem State.textHoldTimers_calls (s : State) : s.textHoldTimers.calls = s.calls := rfl
@[simp] theorem State.textHoldTimers_agenda (s : State) : s.textHoldTimers.agenda = s.agenda := rfl
@[simp] theorem State.textHoldTimers_freeCount (s : State) : s.textHoldTimers.freeCount = s.freeCount := rfl
@[simp] theorem State.textHoldTimers_pending (s : State) : s.textHoldTimers.pending = s.pending := rfl

end Sys2Proof.Machine
end

