-- ==== Sys2Proof/Laws/Line.lean ====
section
/-! SUPPORT. When the line is idle (R7, R8, R15, R18, R22) and what a stuff fault is (R4, R11): what each of the line's waits asks for,
and what a send opportunity, an answered gap bit and a stuff fault say once they hold. -/

namespace Sys2Proof.Machine

/-! The waits -/

@[simp] theorem LineWait.idle_need : LineWait.idle.need = 0 := rfl
@[simp] theorem LineWait.parcel_need (t : Tick) : (LineWait.parcel t).need = 4 := rfl
@[simp] theorem LineWait.mark_need (t : Tick) : (LineWait.mark t).need = 11 := rfl
@[simp] theorem LineWait.delimiter_need (t : Tick) : (LineWait.delimiter t).need = 11 := rfl
@[simp] theorem LineWait.spend_need (w : LineWait) (rate : Nat) (now : Tick) : (w.spend rate now).need = w.need := rfl
@[simp] theorem LineWait.spend_bits (w : LineWait) (rate : Nat) (now : Tick) : (w.spend rate now).bits = w.bits := rfl
@[simp] theorem LineWait.spend_gap (w : LineWait) (rate : Nat) (now : Tick) : (w.spend rate now).gap = w.gap := rfl

/-- Once the bit times have passed they stay so. -/
theorem LineWait.passed_of_spent (w : LineWait) (rate : Nat) (now u : Tick) (frac n : Nat)
    (h : w.passed w.bits rate now 0 = true) : (w.spend rate now).passed n rate u frac = true := by
  unfold LineWait.spend
  rw [if_pos h]
  rfl

/-! The send opportunity -/

/-- A send opportunity: the interface works and is neither sending nor receiving, and the line is idle, or another station's opening
bit is taken in the gap's last two bits (R8). -/
theorem State.maySend_cases {s : State} {frac quiet : Nat} {taken : Bool} (h : s.maySend frac quiet taken = true) :
    s.lineWorks = true ∧ s.line.phase.free = true
      ∧ (s.idleAfter frac quiet = true ∨ taken = true ∧ s.takesOpening frac quiet = true) := by
  simpa [State.maySend, and_assoc] using h

/-- There is no send opportunity more than two bits before the gap's end (R8, R15, R18). -/
theorem State.maySend_quiet {s : State} {frac quiet : Nat} {taken : Bool} (h : s.maySend frac quiet taken = true) :
    s.line.wait.need ≤ quiet + 2 := by
  obtain ⟨-, -, h | ⟨-, h⟩⟩ := State.maySend_cases h
  · simp only [State.idleAfter, Bool.and_eq_true, decide_eq_true_eq] at h; omega
  · simp only [State.takesOpening, Bool.and_eq_true, decide_eq_true_eq] at h; exact h.1.2

/-! Gap bits -/

/-- A gap bit that is answered: the fifth tail bit of a parcel just complete, or bit 1 or 2 of a gap, after the recessive bits that
stand before it (R7, R18). -/
theorem LineWait.admits_iff (w : LineWait) (g : HoldoffAt) :
    w.admits g = true ↔
      (g = .tail ∧ w.bits = 4 ∧ w.gap = true)
        ∨ ∃ n quiet, g = .gap n quiet ∧ 4 ≤ w.bits ∧ 1 ≤ n ∧ n ≤ 2 ∧ quiet + 5 = n + w.need := by
  cases g <;> simp [LineWait.admits, and_assoc]

/-! The stuff fault -/

/-- A stuff fault begins with a dominant opening bit, and its last bit is the seventh equal one (R4, R11). -/
theorem isStuffFault_spec {bits : List Bool} (h : isStuffFault bits = true) :
    bits.head? = some false ∧ unstuff bits = .sevenEqual 0 := by
  simp only [isStuffFault, Bool.and_eq_true, beq_iff_eq] at h
  exact h.1

end Sys2Proof.Machine
end

