-- ==== Sys2Proof/Laws/Requests.lean ====
section
/-! SUPPORT. Requests for a window (R57 to R63): what a request answers with a clear plan, and when no own window gives way to
it. -/

namespace Sys2Proof.Machine

/-! ### Ticks -/

theorem later_iff (t u : Tick) : later t u = true ↔ 1 ≤ (t - u).toNat ∧ (t - u).toNat < 2 ^ 31 := by
  simp only [later, Bool.and_eq_true, decide_eq_true_eq]
  omega

theorem after_sub_after (t : Tick) (m n : Nat) (h : n ≤ m) (hm : m < 2 ^ 32) :
    (after t m - after t n).toNat = m - n := by
  simp only [after]
  bv_omega

theorem later_after_after (t : Tick) (m n : Nat) (hm : m < 2 ^ 31) (hn : n < 2 ^ 31) :
    later (after t m) (after t n) = decide (n < m) := by
  rw [Bool.eq_iff_iff, later_iff, decide_eq_true_iff]
  rcases Nat.lt_or_ge n m with h | h
  · rw [after_sub_after t m n (by omega) (by omega)]
    omega
  · have e : (after t m - after t n).toNat = (2 ^ 32 - (n - m)) % 2 ^ 32 := by
      simp only [after]
      bv_omega
    rw [e]
    omega

theorem after_zero (t : Tick) : after t 0 = t := by simp [after]

theorem later_self_after (t : Tick) (n : Nat) (hn : n < 2 ^ 31) : later t (after t n) = false := by
  have := later_after_after t 0 n (by omega) hn
  rw [after_zero] at this
  simpa using this

theorem later_after_self (t : Tick) (n : Nat) (hn : n < 2 ^ 31) : later (after t n) t = decide (0 < n) := by
  have := later_after_after t n 0 hn (by omega)
  rwa [after_zero] at this

theorem after_after (t : Tick) (m n : Nat) : after (after t m) n = after t (m + n) := by
  simp only [after]
  bv_omega

/-! ### With a clear plan -/

/-- The window record of a request placed at a span (R53). -/
def Request.window (r : Request) (id : Nat) (start stop : Tick) (st : WinState) (claim : Option Nat) : Window :=
  { id := id, kind := r.kind, cls := r.kind.cls, placement := r.placement, start := start, stop := stop,
    state := st, owner := r.owner, echoed := false, cut := none, claim := claim }

/-- A floating request with no obstacle and no own window is placed at the later of its earliest tick and now + 99 (R60). -/
theorem State.request_floating {s : State} (hp : s.air.plan = []) (hq : s.air.peers = []) (kind : WinKind) (owner : UnitId)
    (len : Nat) (earliest : Tick) (latest : Option Tick) (he : later earliest (after s.now (2 ^ 30)) = false)
    (hl : ∀ l, latest = some l →
      earlier l (after s.now 99) = false ∧ later (laterOf earliest (after s.now 99)) l = false) :
    s.request (.floating kind owner len earliest latest)
      = s.addWindow (.floating kind owner len earliest latest) (laterOf earliest (after s.now 99))
        (after (laterOf earliest (after s.now 99)) len) := by
  have hplace : s.place (.floating kind owner len earliest latest)
      = some (laterOf earliest (after s.now 99), after (laterOf earliest (after s.now 99)) len) := by
    cases latest with
    | none =>
      unfold State.place
      dsimp only
      rw [he]
      simp [State.obstacles, hp, hq, clearStart, hits]
    | some l =>
      obtain ⟨h1, h2⟩ := hl l rfl
      unfold State.place
      dsimp only
      rw [he]
      simp [State.obstacles, hp, hq, clearStart, hits, h1, h2]
  rw [State.request, hplace]
  simp [State.displaced, hp, State.allGiveWay]

/-- A window added to an empty plan, its start within 32768 ticks: it is OFFERED at once (R62, R63). -/
theorem State.addWindow_soon {s : State} (hp : s.air.plan = []) (r : Request) (start stop : Tick)
    (h : later start (after s.now 32768) = false) :
    s.addWindow r start stop =
      ({ s with
          air := { s.air with
            plan := [r.window (s.nextId 255 (s.air.idCounter % 255 + 1)) start stop .offered (some s.line.nextSerial)]
            idCounter := s.nextId 255 (s.air.idCounter % 255 + 1) }
          line := s.line.offer .airtime r.kind.cls 1
            [255, byte (s.nextId 255 (s.air.idCounter % 255 + 1)), byte r.kind.code, 0, 0, 0, 0] (some (.claim start stop)) },
        .placed (s.nextId 255 (s.air.idCounter % 255 + 1)) start stop) := by
  unfold State.now at h
  simp [State.addWindow, hp, State.now, h, insertWindow, State.offerClaim, State.modWindow, State.offer, Request.window]

/-- A window added to an empty plan, its start further off: it is PLANNED (R62, R63). -/
theorem State.addWindow_late {s : State} (hp : s.air.plan = []) (r : Request) (start stop : Tick)
    (h : later start (after s.now 32768) = true) :
    s.addWindow r start stop =
      ({ s with
          air := { s.air with
            plan := [r.window (s.nextId 255 (s.air.idCounter % 255 + 1)) start stop .planned none]
            idCounter := s.nextId 255 (s.air.idCounter % 255 + 1) } },
        .placed (s.nextId 255 (s.air.idCounter % 255 + 1)) start stop) := by
  unfold State.now at h
  simp [State.addWindow, hp, State.now, h, insertWindow, Request.window]

/-- With an empty plan no own window is displaced, so that the unit is told "placed" at once (R61). -/
theorem State.displacedBy_nil {s : State} (hp : s.air.plan = []) (r : Request) : s.displacedBy r = [] := by
  unfold State.displacedBy State.displaced
  split
  · rfl
  · simp [hp]

/-- A request that displaces no own window is answered at once (R61). -/
theorem State.ask_now {s : State} {r : Request} (h : s.displacedBy r = []) (w : Waiter)
    (placed : State → Nat → Tick → Tick → State) (refused : State → Bool → State) :
    s.ask r w placed refused = answered (s.request r) placed refused := by
  simp [State.ask, h]

/-! ### No own window gives way -/

/-- With no own window of a less urgent class, none gives way to a request (R61, R62). -/
theorem State.displaced_none {s : State} {cls : Nat} (h : ∀ w ∈ s.air.plan, w.cls ≤ cls) (start stop : Tick) :
    s.displaced cls start stop = some [] ∨ s.displaced cls start stop = none := by
  have h1 : ∀ p : Window → Bool,
      s.air.plan.filter (fun w => (decide (cls < w.cls) && p w)) = [] := by
    intro p
    rw [List.filter_eq_nil_iff]
    intro w hw
    have := h w hw
    simp; omega
  unfold State.displaced
  simp only [Bool.and_assoc, h1]
  split
  · exact Or.inl rfl
  · split
    · rename_i v hv
      split
      · rename_i hc
        exfalso
        have hm : ∀ l : List Window, ∀ v, giveUp l = some v → v ∈ l := by
          intro l
          induction l with
          | nil => intro v hv; cases hv
          | cons w ws ih =>
            intro v hv
            unfold giveUp at hv
            split at hv
            · cases hv; simp
            · rename_i u hu
              split at hv
              · cases hv; simp
              · cases hv; exact List.mem_cons_of_mem _ (ih _ hu)
        have := h v (List.mem_of_mem_filter (hm _ v hv))
        omega
      · exact Or.inr rfl
    · exact Or.inr rfl

/-- With no own window of a less urgent class, a request is refused and changes nothing, or adds its window (R61, R62). -/
theorem State.request_cases {s : State} (r : Request) (h : ∀ w ∈ s.air.plan, w.cls ≤ r.kind.cls) :
    (s.request r).1 = s ∨ ∃ start stop, s.request r = s.addWindow r start stop := by
  unfold State.request
  split
  · exact Or.inl rfl
  · rename_i start stop _
    rcases State.displaced_none h start stop with e | e
    · rw [e]; exact Or.inr ⟨start, stop, rfl⟩
    · rw [e]; exact Or.inl rfl

/-- With no own window of a less urgent class, a request hands no work on. -/
theorem State.request_agenda {s : State} (r : Request) (h : ∀ w ∈ s.air.plan, w.cls ≤ r.kind.cls) :
    (s.request r).1.agenda = s.agenda := by
  rcases State.request_cases r h with e | ⟨start, stop, e⟩ <;> rw [e]
  simp

theorem mem_insertWindow (w v : Window) (l : List Window) : v ∈ insertWindow w l ↔ v = w ∨ v ∈ l := by
  induction l with
  | nil => simp [insertWindow]
  | cons u us ih =>
    unfold insertWindow
    split
    · simp
    · simp [ih]
      tauto

/-- The windows in the plan after one is added (R62, R63). -/
theorem State.addWindow_mem {s : State} (r : Request) (start stop : Tick) {w : Window}
    (hw : w ∈ (s.addWindow r start stop).1.air.plan) : w.cls = r.kind.cls ∨ ∃ v ∈ s.air.plan, w.cls = v.cls ∧ w.kind = v.kind := by
  unfold State.addWindow at hw
  dsimp only at hw
  split at hw
  · rcases (mem_insertWindow _ _ _).mp hw with rfl | hw
    · exact Or.inl rfl
    · exact Or.inr ⟨w, hw, rfl, rfl⟩
  · simp only [State.offerClaim, State.offer_frame, State.modWindow, List.mem_map] at hw
    obtain ⟨v, hv, rfl⟩ := hw
    rcases (mem_insertWindow _ _ _).mp hv with rfl | hv
    · exact Or.inl (by split <;> rfl)
    · exact Or.inr ⟨v, hv, by split <;> rfl, by split <;> rfl⟩

/-! ### A request with a clear plan -/

theorem laterOf_now (t : Tick) : laterOf t (after t 99) = after t 99 := by
  unfold laterOf
  rw [later_after_self _ _ (by omega)]
  rfl

/-- With a clear plan a floating request from now is placed at now + 99 and OFFERED at once (R60, R63). -/
theorem State.request_offers {s : State} (hp : s.air.plan = []) (hq : s.air.peers = []) (kind : WinKind) (owner : UnitId)
    (len : Nat) (latest : Option Tick) (hl : ∀ l, latest = some l → ∃ n, 99 ≤ n ∧ n < 2 ^ 31 ∧ l = after s.now n) :
    ∃ t id w, s.request (.floating kind owner len s.now latest) = (t, .placed id (after s.now 99) (after (after s.now 99) len))
      ∧ t.Offers owner kind id (after s.now 99) (after (after s.now 99) len)
      ∧ t = { s with air := t.air, line := t.line } ∧ t.air = { s.air with plan := [w], idCounter := id }
      ∧ w.kind = kind ∧ w.owner = owner ∧ w.id = id ∧ w.state = .offered
      ∧ (∀ e ∈ s.line.path, e ∈ t.line.path) ∧ s.line.nextSerial ≤ t.line.nextSerial := by
  have h0 : later s.now (after s.now (2 ^ 30)) = false := later_self_after _ _ (by omega)
  have h1 : ∀ l, latest = some l →
      earlier l (after s.now 99) = false ∧ later (laterOf s.now (after s.now 99)) l = false := by
    intro l h
    obtain ⟨n, hn, hn', rfl⟩ := hl l h
    rw [laterOf_now]
    unfold earlier
    rw [later_after_after _ _ _ (by omega) (by omega)]
    simp
    omega
  have h2 : later (laterOf s.now (after s.now 99)) (after s.now 32768) = false := by
    rw [laterOf_now, later_after_after _ _ _ (by omega) (by omega)]
    simp
  have e := State.request_floating hp hq kind owner len s.now latest h0 h1
  rw [State.addWindow_soon hp _ _ _ h2, laterOf_now] at e
  refine ⟨_, _, _, e, ⟨⟨_, List.mem_singleton.mpr rfl, rfl, rfl, rfl, rfl, rfl, rfl, rfl⟩, ?_⟩, rfl, rfl, rfl, rfl, rfl, rfl, ?_, ?_⟩
  · exact ⟨_, (Line.offer_mem _ _ _ _ _ _ _).mpr (Or.inr rfl), rfl, rfl, rfl, rfl⟩
  · intro x hx
    exact (Line.offer_mem _ _ _ _ _ _ _).mpr (Or.inl hx)
  · simp

/-- With a clear plan a floating request from a tick more than 32768 ticks ahead is placed there and PLANNED (R60, R63). -/
theorem State.request_plans {s : State} (hp : s.air.plan = []) (hq : s.air.peers = []) (kind : WinKind) (owner : UnitId)
    (len n : Nat) (hn : 32768 < n) (hn' : n ≤ 2 ^ 30) :
    ∃ id w, s.request (.floating kind owner len (after s.now n) none)
        = ({ s with air := { s.air with plan := [w], idCounter := id } },
          .placed id (after s.now n) (after (after s.now n) len))
      ∧ w.id = id ∧ w.kind = kind ∧ w.cls = kind.cls ∧ w.owner = owner ∧ w.start = after s.now n
      ∧ w.stop = after (after s.now n) len ∧ w.state = .planned := by
  have h0 : later (after s.now n) (after s.now (2 ^ 30)) = false := by
    rw [later_after_after _ _ _ (by omega) (by omega)]
    simp
    omega
  have e1 : laterOf (after s.now n) (after s.now 99) = after s.now n := by
    unfold laterOf
    rw [later_after_after _ _ _ (by omega) (by omega)]
    simp
    omega
  have h2 : later (laterOf (after s.now n) (after s.now 99)) (after s.now 32768) = true := by
    rw [e1, later_after_after _ _ _ (by omega) (by omega)]
    simpa using hn
  have e := State.request_floating hp hq kind owner len (after s.now n) none h0 (by simp)
  rw [State.addWindow_late hp _ _ _ h2, e1] at e
  exact ⟨_, _, e, rfl, rfl, rfl, rfl, rfl, rfl, rfl⟩

end Sys2Proof.Machine
end

