-- ==== Sys2Proof/Laws/Tallies.lean ====
section
/-! SUPPORT. What a change of the tallies does (R19 to R23): the tallies and the line state derived from them take their values, the
pending notices and the send path may gain LINE-STATE, and nothing else changes. -/

namespace Sys2Proof.Machine

/-- An event raised leaves the line interface but for its send path. -/
theorem State.raise_rest (s : State) (k : NoticeKind) (d : List Byte) : (s.raise k d).line.rest = s.line.rest :=
  congrArg Kept.line (s.raise_kept k d)

/-- A change of the tallies changes the line interface and the command and notice unit alone, of a part AWAKE. -/
theorem State.setTallies_of_awake {s : State} (h : s.pag.isAwake = true) (a b : Nat) :
    s.setTallies a b = { s with cmd := (s.setTallies a b).cmd, line := (s.setTallies a b).line } := by
  unfold State.setTallies
  dsimp only
  split
  · rfl
  · rw [State.raise_of_awake (by exact h)]

/-- The line interface but for its send path after a change of the tallies (R21 to R23). -/
theorem State.setTallies_rest (s : State) (a b : Nat) :
    (s.setTallies a b).line.rest =
      { s.line.rest with
        sendTally := a
        listenTally := b
        state := deriveLineState a b
        extraWait := if deriveLineState a b == .vocal && s.line.state != .vocal then 0 else s.line.extraWait
        recoveryCount :=
          if deriveLineState a b == .detached && s.line.state != .detached then 0 else s.line.recoveryCount } := by
  unfold State.setTallies
  dsimp only
  split
  · rfl
  · rw [State.raise_rest]; rfl

/-- Every entry of the send path stays at a change of the tallies (R16, R24). -/
theorem State.setTallies_mem (s : State) (a b : Nat) (e : TxEntry) (h : e ∈ s.line.path) :
    e ∈ (s.setTallies a b).line.path := by
  unfold State.setTallies
  dsimp only
  split
  · exact h
  · rw [State.raise_line]; exact h

/-- The fields of the line interface after a change of the tallies. -/
theorem State.setTallies_fields (s : State) (a b : Nat) :
    (s.setTallies a b).line.sendTally = a ∧ (s.setTallies a b).line.listenTally = b
      ∧ (s.setTallies a b).line.state = deriveLineState a b ∧ (s.setTallies a b).line.phase = s.line.phase
      ∧ (s.setTallies a b).line.rxq = s.line.rxq ∧ (s.setTallies a b).line.station = s.line.station
      ∧ (s.setTallies a b).line.rate = s.line.rate ∧ (s.setTallies a b).line.joined = s.line.joined := by
  have g {α : Type} (p : Line → α) := congrArg p (s.setTallies_rest a b)
  exact ⟨g (·.sendTally), g (·.listenTally), g (·.state), g (·.phase), g (·.rxq), g (·.station), g (·.rate), g (·.joined)⟩

/-- A change of the tallies hands no work on, and changes neither reset, the queue of commands nor any unit but the command and
notice unit, of a part AWAKE. -/
theorem State.setTallies_units {s : State} (h : s.pag.isAwake = true) (a b : Nat) :
    (s.setTallies a b).agenda = s.agenda ∧ (s.setTallies a b).inReset = s.inReset
      ∧ (s.setTallies a b).pending = s.pending ∧ (s.setTallies a b).air = s.air ∧ (s.setTallies a b).meas = s.meas
      ∧ (s.setTallies a b).svc = s.svc ∧ (s.setTallies a b).ho = s.ho ∧ (s.setTallies a b).pag = s.pag
      ∧ (s.setTallies a b).calls = s.calls ∧ (s.setTallies a b).text = s.text := by
  rw [State.setTallies_of_awake h]
  simp

/-- An enabled event is in the pending notice list after it is raised (R41). -/
theorem State.raise_noted (s : State) (k : NoticeKind) (d : List Byte) (h : s.enabled k = true) :
    (s.raise k d).cmd.notices.any (·.kind == k) = true := by
  have hrec : ∀ l : List NoticeEntry, (recordNotice k d l).any (·.kind == k) = true := by
    intro l
    unfold recordNotice
    split
    · rename_i hk
      obtain ⟨e, he, hek⟩ := List.any_eq_true.mp hk
      refine List.any_eq_true.mpr ⟨e.coalesce d, List.mem_map.mpr ⟨e, he, by simp [hek]⟩, ?_⟩
      unfold NoticeEntry.coalesce
      split <;> exact hek
    · simp
  unfold State.raise
  rw [h]
  simp only [if_true, State.internalWake_frame]
  exact hrec _

/-- An event recorded stays in the pending notice list at the end of the handling (R41, R42). -/
theorem State.tellHost_noted (s : State) (before : Command) (k : NoticeKind)
    (h : s.cmd.notices.any (·.kind == k) = true) : (s.tellHost before).cmd.notices.any (·.kind == k) = true := by
  have hmap : ∀ (l : List NoticeEntry) (j : NoticeKind), l.any (·.kind == k) = true →
      (l.map fun f => if f.kind == j then { f with offered := true } else f).any (·.kind == k) = true := by
    intro l j hl
    obtain ⟨e, he, hek⟩ := List.any_eq_true.mp hl
    refine List.any_eq_true.mpr ⟨_, List.mem_map.mpr ⟨e, he, rfl⟩, ?_⟩
    split <;> exact hek
  rcases s.tellHost_cases before with e | e <;> rw [e]
  · exact h
  · unfold State.buildNotice
    split
    · exact h
    · split
      · exact h
      · simp only [State.offer_frame]
        exact hmap _ _ h

end Sys2Proof.Machine
end

