-- ==== Sys2Proof/Tests/Slice0.lean ====
section
/-! SUPPORT. Tests: the checks of `Instr.wf` refuse ill-formed commands, worked examples of the manual, and for every statement
with hypotheses a concrete state and operands that meet them. Expected values stand in the manual or are reckoned from its rules
by hand. -/

namespace Sys2Proof.Tests

/- The tests are checked one after another, which keeps the memory of a build low. -/
set_option Elab.async false

open Sys2Proof Sys2Proof.Machine

/-! ### Small states -/

/-- A SETUP record: index 5, host 1, transceiver 2, settle exponent 7, every notice enabled. -/
def aSetup : Setup := { identity := 0x12345678, index := 5, host := 1, transceiver := 2, settle := 7, mask := 0xFFFF }

/-- Station 3, AWAKE and joined at tick 1000 in a service state, with nothing else going on. -/
def up (st : ServiceState) : State :=
  { State.reset with
    inReset := false
    line := { Line.reset with station := 3, rate := 1, joined := true }
    cmd := { Command.reset with setup := some aSetup }
    air := { Airtime.reset with now := 1000 }
    svc := { Service.reset with state := st, reported := some .scanning }
    pag := { Paging.reset with power := .awake } }

/-- A record of a topic with these bytes after the destination, received at tick 990. -/
def parcelOf (topic : Nat) (fields : List Nat) : RxRecord where
  cls := 4
  topic := topic
  source := if isHostTopic topic then 1 else 2
  payload := (3 :: fields).map byte
  arrival := 990

/-- The state with one record waiting. -/
def given (s : State) (r : RxRecord) : State := { s with line := { s.line with rxq := [r] } }

/-- The state with a service controller, a plan, cells, calls or texts. -/
def withSvc (s : State) (f : Service → Service) : State := { s with svc := f s.svc }
def withPlan (s : State) (ws : List Window) : State := { s with air := { s.air with plan := ws } }
def withCells (s : State) (cs : List Cell) : State := { s with meas := { s.meas with cells := cs } }
def withCalls (s : State) (cs : List Call) : State := { s with calls := { s.calls with table := cs } }
def withText (s : State) (f : Text → Text) : State := { s with text := f s.text }

/-- An answer waiting to be sent, and an attempt to send it. -/
def anEntry : TxEntry := ⟨0, .command, 4, 32, [1, 8, 9, 0], none, false⟩
def anAttempt (e : TxEntry) : Attempt where
  serial := e.serial
  bits := wire ⟨BitVec.ofNat 3 e.cls, BitVec.ofNat 7 e.topic, 3, e.payload⟩
  openTick := 1000
  tailTick := 1006

/-- The part sending an entry. -/
def sending (s : State) (e : TxEntry) : State :=
  { s with line := { s.line with txq := [e], nextSerial := e.serial + 1, phase := .sending (anAttempt e) } }

/-- An own window with id 1 over a span. -/
def aWindow (kind : WinKind) (owner : UnitId) (start stop : Tick) (st : WinState) : Window where
  id := 1
  kind := kind
  cls := kind.cls
  placement := .floating
  start := start
  stop := stop
  state := st
  owner := owner
  echoed := false
  cut := none
  claim := if st == .planned then none else some 0

/-- The CLAIM of a window with id 1. -/
def aClaim (kind : WinKind) (start stop : Tick) : TxEntry :=
  ⟨0, .airtime, kind.cls, 1, [255, 1, byte kind.code, 0, 0, 0, 0], some (.claim start stop), false⟩

/-- A round with id 1 that has asked for its order. -/
def aRound (q : ReqState) : Round where
  id := 1
  start := 2000
  len := 49
  capacity := 1
  order := none
  req := q
  reported := []
  lastTaken := false
  outcome := none
  silence := none

/-- A paging cycle whose watch is window 1. -/
def aCycle (st : WatchStatus) : Cycle where
  frame := 69
  start := 2000
  stop := 2328
  watch := some 1
  status := st
  deadline := none
  measure := none
  full := false
  ended := false

/-- Two keys. -/
def theKey : CellKey := ⟨100, 5⟩
def newKey : CellKey := ⟨101, 511⟩

/-- The state after a command. -/
def did (c : Instr) (s : State) : State :=
  match exec c s with
  | .next t => t
  | _ => s

/-! ### The hypotheses of the statements are met: one step and the whole machine -/

theorem meets_StepRunsFrontCommand :
    ({ up .camped with pending := [.lingerExpiry] } : State).pending = .lingerExpiry :: [] ∧ (up .camped).pending = []
      ∧ (up .camped).inReset = false := by decide +kernel

/-- A full parcel of 64 bytes is in range. -/
theorem meets_LineReadsWhatItSends : (⟨7, 127, 15, List.replicate 64 0⟩ : Parcel).wf = true := by decide

/-- At the tallies 186 and 127 a sender's fault still keeps them in range. -/
def nearDetached : State :=
  { sending (up .camped) anEntry with
    line := { (sending (up .camped) anEntry).line with sendTally := 186, listenTally := 127, state := .muted }
    pending := [.formFault .checkDelimiter] }

theorem meets_TalliesHoldAfterEveryStep :
    nearDetached.TalliesHold ∧ (nearDetached.line.sendTally, nearDetached.line.listenTally) = (186, 127) := by decide +kernel

/-- A station number of 15 and a settle exponent of 9 are the ends of their ranges. -/
def setupWaiting : State := { given (up .camped) (parcelOf 8 [9, 1, 2, 3, 4, 3, 255, 1, 2, 20, 0, 0]) with pending := [.setup] }

theorem meets_SetupHoldsAfterEveryStep : setupWaiting.SetupHolds ∧ Instr.status ≠ .setup ∧ Instr.status ≠ .resetAssert := by
  decide +kernel

theorem meets_RingHoldsAfterEveryStep :
    ({ up .camped with
        line := { (up .camped).line with rxq := List.replicate 9 { parcelOf 9 [] with payload := List.replicate 64 3 } }
        pending := [.parcelReceived 1000 ⟨4, 9, 1, List.replicate 44 3⟩] } : State).RingHolds := by decide +kernel

/-- 24 claims of station 9 of a class, the first with the latest start, and a full list of them. -/
def manyPeers (cls : Nat) : List Claim :=
  (List.range 24).map fun i => ⟨9, i, cls, 2, after 1400 (24 - i), after 1450 (24 - i)⟩

def crowdedWithPeers (cls : Nat) (s : State) : State := { s with air := { s.air with peers := manyPeers cls } }

/-- Eight TRAFFIC windows, the first ACTIVE. -/
def eightWindows : List Window :=
  (List.range 8).map fun i =>
    { id := i + 1, kind := .traffic, cls := 1, placement := .floating, start := 900 + 1000 * BitVec.ofNat 32 i
      stop := 1400 + 1000 * BitVec.ofNat 32 i, state := if i = 0 then .active else .planned, owner := .service
      echoed := false, cut := none, claim := none }

/-- Every table full at once: 24 claims, four calls, 4096 used bytes and 16 cells, one SERVING. -/
def allFull : State :=
  let s := crowdedWithPeers 1 (up .linked)
  { s with
    calls := { s.calls with
      table := [1, 2, 3, 4].map fun h =>
        { handle := h, out := true, state := .clearing, number := none, waiting := false, cause := none, timer := .off
          transaction := h } }
    meas := { s.meas with
      cells := (List.range 16).map fun i => Cell.fresh ⟨100 + i, 5⟩ (if i = 0 then .serving else .listed) 0 }
    text := { s.text with
      store :=
        [{ number := 1, originator := [1], stamp := [0, 0, 0, 0, 0, 0], total := 1, mask := 1, complete := true, seen := false
           body := List.replicate 4072 65 }] }
    pending := [.claimExpiry 9 0] }

theorem meets_RingHoldsAfterEveryStep_tables :
    (allFull.PeersHold ∧ allFull.air.peers.length = 24) ∧ (allFull.CallsHold ∧ allFull.calls.table.length = 4)
      ∧ (allFull.StoreHolds ∧ allFull.text.used = 4096) ∧ allFull.CellsHold ∧ allFull.meas.cells.length = 16 := by decide +kernel

/-- Eight windows, no two overlapping, and the next command within the ACTIVE one's span. -/
theorem meets_CounterNeverGoesBack :
    let s : State := { withPlan (up .linked) eightWindows with pending := [.windowEnd 1] }
    Instr.resets (.sendOpportunity 0 0 ⟨0, false⟩) = false
      ∧ s.PlanHolds ∧ s.air.plan.length = 8 ∧ s.PlanTimely (did (.windowEnd 1) s).air.now
      ∧ (did (.windowEnd 1) s).air.plan.length = 7 := by decide +kernel

/-- A DETACHED station that receives. -/
def detached : State :=
  { up .camped with line := { (up .camped).line with sendTally := 192, state := .detached } }

theorem meets_DetachedUntilRecovery : detached.line.state = .detached ∧ detached.TalliesHold := by decide +kernel

theorem meets_RefusedCommandsChangeNothing :
    (isHostTopic 14 = true ∧ topicCommand 14 = some .dial)
      ∧ ((given (up .camped) (parcelOf 14 [9])).Front 14 (parcelOf 14 [9]) ∧ isShort 14 (parcelOf 14 [9]).payload = true)
      ∧ ((given (up .unset) (parcelOf 10 [9])).Front 10 (parcelOf 10 [9]) ∧ isShort 10 (parcelOf 10 [9]).payload = false
        ∧ takenUnset 10 = false)
      ∧ ((given (up .shelved) (parcelOf 11 [9])).Front 11 (parcelOf 11 [9]) ∧ isShort 11 (parcelOf 11 [9]).payload = false
        ∧ takenShelved 11 = false) := by decide +kernel

theorem meets_ShortAndMalformedAreDiscarded :
    (isHostTopic 44 = false ∧ topicCommand 44 = some .pageResult)
      ∧ ((given (up .camped) (parcelOf 44 [1, 0, 0])).Front 44 (parcelOf 44 [1, 0, 0])
        ∧ isShort 44 (parcelOf 44 [1, 0, 0]).payload = true)
      ∧ (given (up .camped) (parcelOf 44 [1, 4, 0, 0, 0, 0, 0, 0])).Front 44 (parcelOf 44 [1, 4, 0, 0, 0, 0, 0, 0])
        ∧ isMalformed 44 (parcelOf 44 [1, 4, 0, 0, 0, 0, 0, 0]).payload = true := by decide +kernel

theorem meets_StartUp :
    State.reset.inReset = true
      ∧ (({ up .unset with pag := { Paging.reset with power := .settling, settleEnd := some 1512 } } : State).Settled)
      ∧ ({ up .unset with line := { (up .unset).line with joined := false } } : State).Ready := by decide +kernel

/-! ### … the line -/

/-- The part with an answer to send and something of its own on the line before it. -/
def toSend (p : LinePhase) (w : LineWait) (st : LineState) (extra : Nat) : State :=
  { up .camped with line :=
    { (up .camped).line with txq := [anEntry], nextSerial := 1, phase := p, wait := w, state := st, extraWait := extra } }

/-- On an idle line, 19 bits of 512 after the bit before a mark, after the gap and 8 bits more while MUTED, and with another
station's opening bit in gap bit 3. -/
theorem meets_SendOpportunityStartsHead :
    let idle := toSend .idle .idle .vocal 0
    let marked := toSend (.marked true true 0) (.mark 1000) .vocal 8
    let muted := toSend .idle (.parcel 1000) .muted 8
    let gap := toSend .idle (.parcel 1000) .vocal 0
    (∀ s ∈ [idle, marked, muted, gap], s.OnLine ∧ s.line.txq = anEntry :: [] ∧ s.line.phase.free = true)
      ∧ idle.line.wait.need = 0
      ∧ (marked.line.wait.need = 11 ∧ marked.line.wait.passed 19 1 1000 9728 = true)
      ∧ muted.line.wait.need + muted.line.extraWait = 12
      ∧ (gap.line.wait.need = 2 + 2 ∧ gap.line.wait.bits = 4 ∧ gap.line.wait.passed 2 1 1000 1024 = true)
      ∧ (toSend .receiving .idle .vocal 0).Ready ∧ (toSend .receiving .idle .vocal 0).line.phase.free = false := by decide +kernel

/-- Each of these is the last opportunity that is none, or the first that is one. -/
theorem test_idle_line :
    let starts (s : State) (frac quiet : Nat) (taken : Bool) : Bool :=
      !(did (.sendOpportunity 1000 frac ⟨quiet, taken⟩) s).line.phase.notSending
    let marked := toSend (.marked true true 0) (.mark 1000) .vocal 8
    let muted := toSend .idle (.parcel 1000) .muted 8
    let gap := toSend .idle (.parcel 1000) .vocal 0
    (starts marked 9728 11 false ∧ !starts marked 9727 11 false ∧ !starts marked 9728 10 false)
      ∧ (starts marked 8704 9 true ∧ !starts marked 9728 8 true ∧ !starts marked 8703 9 true)
      ∧ (starts muted 2048 12 false ∧ !starts muted 2048 11 false ∧ !starts muted 2048 11 true)
      ∧ (starts gap 1024 2 true ∧ !starts gap 1024 2 false ∧ !starts gap 1024 1 true) := by decide +kernel

/-- An opening bit and seven recessive bits. -/
def sevenRecessive : List Bool := false :: List.replicate 7 true

/-- The tag of the answer is 100 0100000 0011, with a stuff bit after its tenth bit. -/
theorem meets_SenderFaultsRaiseTheSendTally :
    let s := sending (up .camped) anEntry
    s.OnLine ∧ s.line.phase = .sending (anAttempt anEntry) ∧ s.line.entry? 0 = some anEntry ∧ anEntry.removal = false
      ∧ s.ownBit (anAttempt anEntry) 0 = some (.opening false) ∧ s.ownBit (anAttempt anEntry) 2 = some (.tag false)
      ∧ s.ownBit (anAttempt anEntry) 16 = some (.pastTag false) ∧ isStuffFault sevenRecessive = true
      ∧ sevenRecessive.getLast? ≠ some false
      ∧ FormFaultAt.wf (.tail 4) = true ∧ s.line.state = .vocal := by decide +kernel

/-- A CLAIM of class 0, whose opening bit and first five tag bits are dominant, with a stuff bit after them. -/
def stuffed : TxEntry := { anEntry with cls := 0, topic := 1 }

theorem meets_SendersWithoutARise :
    let s := sending (up .camped) anEntry
    let v := sending (up .camped) stuffed
    (s.OnLine ∧ s.line.phase = .sending (anAttempt anEntry) ∧ s.line.entry? 0 = some anEntry ∧ anEntry.removal = false)
      ∧ (s.line.tag anEntry).testBit (13 - 0) = true ∧ (s.line.tag anEntry).testBit (13 - 13) = true
      ∧ s.ownBit (anAttempt anEntry) 12 = some (.tagStuff true)
      ∧ (v.OnLine ∧ v.line.entry? 0 = some stuffed ∧ isStuffFault (List.replicate 7 false) = true
        ∧ v.ownBit (anAttempt stuffed) 6 = some (.tagStuff true) ∧ (List.replicate 7 false).getLast? = some false)
      ∧ (nearDetached.OnLine ∧ nearDetached.line.state = .muted) := by decide +kernel

/-- Parcel 4, 32 from station 3 with its last bit turned round. -/
def badCheck : List Bool := (anAttempt anEntry).bits.dropLast ++ [!((anAttempt anEntry).bits.getLastD true)]

theorem meets_ReceiverFaultsRaiseTheListenTally :
    (up .camped).OnLine ∧ (up .camped).line.phase.notSending = true ∧ isStuffFault sevenRecessive = true
      ∧ unwire badCheck = .checkFault ∧ FormFaultAt.wf (.size 65) = true ∧ FormFaultAt.wf (.size 127) = true
      ∧ (List.replicate 7 true).head? ≠ some false ∧ unstuff (List.replicate 7 true) = .sevenEqual 0
      ∧ (⟨4, 32, 3, [1, 8, 9, 0]⟩ : Parcel).wf = true := by decide +kernel

/-- Seven recessive bits that follow a whole stuffed part, or no opening bit, are no stuff fault. -/
theorem test_no_stuff_fault :
    let read (bits : List Bool) := (did (.stuffFault (.read bits)) (up .camped)).line.listenTally
    read sevenRecessive = 1 ∧ read (List.replicate 7 true) = 0
      ∧ unstuff ((anAttempt anEntry).bits ++ List.replicate 7 true) ≠ unstuff (anAttempt anEntry).bits
      ∧ ∀ n ∈ List.range 9, read ((anAttempt anEntry).bits ++ List.replicate n true) = 0 := by decide +kernel

theorem meets_DominantBitsAfterTheMarkRaiseTallies :
    let s (loud sender : Bool) (run : Nat) : State :=
      { up .camped with line := { (up .camped).line with phase := .marked loud sender run } }
    (s true true 0).OnLine ∧ (s true true 0).line.phase = .marked true true 0 ∧ (s false false 8).OnLine
      ∧ (s false false 8).line.phase = .marked false false 8 ∧ 8 < 9 ∧ 9 = (if false then 15 else 9) + 8 * 0 := by decide +kernel

theorem meets_RecoveryClearsTheTallies : detached.Ready ∧ detached.line.state = .detached ∧ detached.enabled .lineState = true := by
  decide +kernel

theorem meets_Holdoffs :
    let s := toSend .idle (.parcel 1000) .vocal 0
    let h := toSend .holdoff (.mark 1000) .vocal 0
    (s.OnLine ∧ s.line.phase.free = true ∧ s.line.wait.gap = true ∧ s.line.wait.bits = 4)
      ∧ (h.OnLine ∧ h.line.phase.free = true ∧ h.line.wait.gap = true ∧ 11 ≤ h.line.wait.bits ∧ 8 = 2 + 6)
      ∧ (up .camped).Ready ∧ (up .camped).line.wait.gap = false := by decide +kernel

/-- With 16 bytes free the first bit of the gap begins an own holdoff; a dominant level in that gap is not answered and the count
stays at 1; one in bit 1 of the gap after its delimiter is answered. -/
theorem test_holdoff_gaps :
    let s := toSend .idle (.parcel 1000) .vocal 0
    let full : State := { s with line := { s.line with rxq := List.replicate 13 { parcelOf 48 [] with payload := List.replicate 46 3 } } }
    let held := did .ownHoldoff full
    let line (t : State) := (t.line.phase, t.line.ownHoldoffs)
    line held = (.holdoff, 1) ∧ (∀ q ∈ [0, 1], line (did (.holdoffAnswer (.gap (q + 1) q)) held) = (.holdoff, 1))
      ∧ line (did (.holdoffAnswer (.gap 1 7)) held) = (.holdoff, 0) ∧ line (did (.holdoffAnswer .tail) s) = (.holdoff, 0)
      ∧ line (did .ownHoldoff (did .ownHoldoff s)) = (.idle, 0) := by decide +kernel

/-- A parcel for the part with room for it, and one without: nine records of 66 bytes leave 46. -/
theorem meets_ReceivedParcelsAreQueued :
    let full : State :=
      { up .camped with line :=
        { (up .camped).line with rxq := List.replicate 9 { parcelOf 9 [] with payload := List.replicate 64 3 } } }
    ((up .camped).OnLine ∧ (up .camped).line.phase.notSending = true ∧ (up .camped).accepts 9 1 [3, 7] = true
        ∧ (2 : Nat) + 2 ≤ 640 - rxUsed (up .camped).line.rxq)
      ∧ full.OnLine ∧ full.accepts 9 1 (List.replicate 45 3) = true ∧ 640 - rxUsed full.line.rxq < 45 + 2
        ∧ full.enabled .receiveOverrun = true := by decide +kernel

/-! ### … own windows -/

theorem meets_ClaimOfferedAtItsTick :
    let w := aWindow .scan .service 66536 82920 .planned
    (withPlan (up .scanning) [w]).Ready ∧ (withPlan (up .scanning) [w]).windowIn 1 .planned = some w := by decide +kernel

theorem meets_StandingWindowBecomesActive :
    let w := aWindow .watch .paging 2000 2328 .standing
    (withPlan (up .camped) [w]).Ready ∧ (withPlan (up .camped) [w]).windowIn 1 .standing = some w := by decide +kernel

/-- A watch under way, and a round under way. -/
def watching (st : WinState) (c : WatchStatus) : State :=
  let s := withPlan (up .camped) [aWindow .watch .paging 2000 2328 st]
  { s with pag := { s.pag with running := true, cycles := [aCycle c] } }

def measuring (st : WinState) : State :=
  let s := withPlan (up .camped) [aWindow .measure .paging 2000 2049 st]
  { s with meas := { s.meas with rounds := [aRound .sent] } }

theorem meets_ActiveWindowEnds :
    let w := aWindow .watch .paging 2000 2328 .active
    let v := aWindow .measure .paging 2000 2049 .active
    ((watching .active .active).Ready ∧ (watching .active .active).windowIn 1 .active = some w ∧ w.kind = .watch
        ∧ w.owner = .paging ∧ (watching .active .active).pag.running = true
        ∧ (watching .active .active).pag.cycles.find? (·.watch == some 1) = some (aCycle .active) ∧ w.cut = none
        ∧ ∀ d ∈ (watching .active .active).pag.cycles, d.watch = some 1 → d = aCycle .active)
      ∧ (measuring .active).Ready ∧ (measuring .active).windowIn 1 .active = some v ∧ v.kind = .measure
        ∧ (measuring .active).svc.state ≠ .scanning ∧ (measuring .active).round? 1 = some (aRound .sent)
        ∧ (aRound .sent).lastTaken = false ∧ v.cut = none := by decide +kernel

/-- The CLAIM of a MEASURE window, queued or being sent. -/
def claiming (beingSent : Bool) : State :=
  let s := measuring .offered
  let s : State := { s with line := { s.line with txq := [aClaim .measure 2000 2049], nextSerial := 1 } }
  if beingSent then sending s (aClaim .measure 2000 2049) else s

theorem meets_UnsentClaimLapses :
    let w := aWindow .measure .paging 2000 2049 .offered
    ((claiming true).Ready ∧ (claiming true).windowIn 1 .offered = some w ∧ w.claim = some 0
        ∧ (claiming true).line.isBeingSent 0 = true ∧ (∀ e ∈ (claiming true).line.held, e.serial ≠ 0))
      ∧ (claiming true).line.queuedClaim 1 = some (aClaim .measure 2000 2049, 2000)
      ∧ ((claiming false).Ready ∧ (claiming false).windowIn 1 .offered = some w ∧ (claiming false).line.isBeingSent 0 = false
        ∧ (claiming false).line.isQueued 0 = true ∧ (∀ e ∈ (claiming false).line.held, e.serial ≠ 0) ∧ w.kind = .measure
        ∧ (claiming false).svc.state ≠ .scanning ∧ (claiming false).round? 1 = some (aRound .sent))
      ∧ (claiming false).line.queuedClaim 1 = some (aClaim .measure 2000 2049, 2000)
        ∧ (claiming false).air.plan.find? (fun v => v.claim == some 0 && v.state == .offered) = some w := by decide +kernel

/-- A tail that ends exactly 66 ticks before the window's start is in time. -/
theorem meets_SentClaimMakesItsWindowStand :
    let e := aClaim .measure 1072 1121
    let w := aWindow .measure .paging 1072 1121 .offered
    let s := sending (withPlan (up .camped) [w]) e
    s.OnLine ∧ s.line.phase = .sending (anAttempt e) ∧ s.line.entry? 0 = some e ∧ e.topic = 1
      ∧ s.air.plan.find? (fun v => v.claim == some e.serial && v.state == .offered) = some w
      ∧ (anAttempt e).tailTick = before w.start 66 ∧ notLater (anAttempt e).tailTick (before w.start 66) = true
      ∧ (∀ f ∈ s.line.held, f.serial ≠ (anAttempt e).serial) ∧ (anAttempt e).serial < s.line.nextSerial := by
  decide +kernel

/-- The CLAIM of a window being sent, with its round or scan waiting for it. -/
def claimed (kind : WinKind) (owner : UnitId) (start stop : Tick) (s : State) : State :=
  sending (withPlan s [aWindow kind owner start stop .offered]) (aClaim kind start stop)

/-- The round's order is built and the scan's order goes out; and a tail that ends one tick too late. -/
theorem meets_SentClaimMakesItsWindowStand_orders :
    let m : State :=
      { claimed .measure .paging 1072 1121 (withCells (up .camped)
          [Cell.fresh theKey .found 0, Cell.fresh newKey .listed 0, Cell.fresh ⟨102, 0⟩ .serving 0]) with
        meas := { cells := [Cell.fresh theKey .found 0, Cell.fresh newKey .listed 0, Cell.fresh ⟨102, 0⟩ .serving 0]
                  params := Params.default, rounds := [{ aRound .unbuilt with capacity := 2 }] } }
    let c := claimed .scan .service 1072 17456 (withSvc (up .scanning) fun v =>
      { v with scan := some { Scan.fresh with window := some 1 } })
    let late : State :=
      { claimed .measure .paging 1071 1120 (up .camped) with
        meas := { (up .camped).meas with rounds := [aRound .unbuilt] } }
    (m.OnLine ∧ m.round? 1 = some { aRound .unbuilt with capacity := 2 }
        ∧ (did .parcelSent m).round? 1
          = some { aRound (.offered 1) with capacity := 2, order := some [⟨102, 0⟩, newKey] })
      ∧ (c.OnLine ∧ c.svc.scan = some { Scan.fresh with window := some 1 } ∧ c.line.nextSerial = 1)
      ∧ late.OnLine ∧ late.round? 1 = some (aRound .unbuilt)
        ∧ notLater (anAttempt (aClaim .measure 1071 1120)).tailTick (before (1071 : Tick) 66) = false
        ∧ (did .parcelSent late).meas.rounds = [] := by decide +kernel

theorem meets_SentParcelLeavesTheQueue :
    let s := sending (up .camped) anEntry
    s.OnLine ∧ s.line.phase = .sending (anAttempt anEntry) ∧ s.line.entry? 0 = some anEntry
      ∧ anEntry.topic ≠ 1 ∧ (∀ f ∈ s.line.held, f.serial ≠ 0) ∧ 0 < s.line.nextSerial := by decide +kernel

/-! ### … peer claims, frames and deadlines -/

/-- A CLAIM of class 2 for window 7: start 1000 + 500, length 300, or another length. -/
def peerClaim (len : Nat) : RxRecord := { parcelOf 1 [7, 2, 1, 244, len / 256, len % 256] with cls := 2, source := 4 }

theorem meets_PeerClaimIsStored :
    (given (up .camped) (peerClaim 0)).Receives 1 (peerClaim 0) ∧ u16 (peerClaim 0).payload 5 = 0
      ∧ (given (up .camped) (peerClaim 300)).Receives 1 (peerClaim 300) ∧ u16 (peerClaim 300).payload 5 ≠ 0
      ∧ (given (up .camped) (peerClaim 300)).air.peers.length < 24 ∧ (up .camped).air.plan = [] := by
  decide +kernel

/-- A full list against the claim of class 2: the new one goes where the stored are of class 1, else the latest of class 3. -/
theorem meets_PeerClaimIsStored_full :
    let r := peerClaim 300
    let p : Claim := ⟨9, 0, 3, 2, 1424, 1474⟩
    let q : Claim := claimOf r
    let s (cls : Nat) : State := given (crowdedWithPeers cls (up .camped)) r
    ((s 1).Receives 1 r ∧ (s 1).air.peers.any (·.sameKey q) = false ∧ (s 1).air.peers.length = 24
        ∧ ∀ d ∈ (s 1).air.peers, d.cls < q.cls)
      ∧ (s 3).Receives 1 r ∧ p ∈ (s 3).air.peers ∧ p ≠ q
        ∧ (∀ d ∈ q :: (s 3).air.peers, d ≠ p → d.cls < p.cls ∨ d.cls = p.cls ∧ later p.start d.start = true)
        ∧ (did .claim (s 3)).air.peers.length = 24 ∧ q ∈ (did .claim (s 3)).air.peers := by decide +kernel

/-- The claim 1490 to 1790 against a watch of class 3 from 1700. -/
theorem meets_PeerClaimDisplacesAWatch :
    let w := aWindow .watch .paging 1700 2028 .standing
    let s := given { watching .standing .waiting with air := { (up .camped).air with plan := [w] } } (peerClaim 300)
    s.Receives 1 (peerClaim 300) ∧ u16 (peerClaim 300).payload 5 ≠ 0 ∧ s.air.peers.length < 24 ∧ s.air.plan = [w]
      ∧ w.kind = .watch ∧ w.owner = .paging ∧ w.state = .standing ∧ outranks 2 4 w.cls s.line.station = true
      ∧ overlap (claimOf (peerClaim 300)).start (claimOf (peerClaim 300)).stop w.start w.stop = true ∧ s.pag.running = true
      ∧ s.pag.cycles.find? (·.watch == some w.id) = some (aCycle .waiting) := by decide +kernel

/-- The same claim against an ACTIVE watch of 1450 to 1778, taken before and after the claim's start. -/
theorem meets_PeerClaimDisplacesAWatch_active :
    let w := aWindow .watch .paging 1450 1778 .active
    let s (now : Tick) : State :=
      given { watching .active .active with air := { (up .camped).air with plan := [w], now := now } } (peerClaim 300)
    (∀ t ∈ [s 1460, s 1490], t.Receives 1 (peerClaim 300) ∧ t.air.plan = [w]
        ∧ outranks 2 4 w.cls t.line.station = true ∧ t.pag.cycles.find? (·.watch == some w.id) = some (aCycle .active)
        ∧ overlap (claimOf (peerClaim 300)).start (claimOf (peerClaim 300)).stop w.start w.stop = true)
      ∧ w.kind ≠ .traffic ∧ later (claimOf (peerClaim 300)).start (s 1460).now = true
      ∧ later (claimOf (peerClaim 300)).start (s 1490).now = false ∧ (did .claim (s 1490)).pag.missed = 1 := by decide +kernel

/-- A WITHDRAW of station 4 for its window 7 with a cut offset, and a short one. -/
def peerWithdraw (cut : Nat) : RxRecord := { parcelOf 2 [7, cut / 256, cut % 256] with source := 4 }

theorem meets_WithdrawRemovesOrShortens :
    (given (up .camped) (parcelOf 2 [7])).Front 2 (parcelOf 2 [7]) ∧ isShort 2 (parcelOf 2 [7]).payload = true
      ∧ (given (up .camped) (peerWithdraw 0)).Receives 2 (peerWithdraw 0)
      ∧ (given (up .camped) (peerWithdraw 600)).Receives 2 (peerWithdraw 600) := by decide +kernel

def anAnchor : Anchor := ⟨1000, 500000, 7⟩
def anchored (s : State) : State := { s with air := { s.air with anchor := some anAnchor } }

theorem meets_RebasedAnchorKeepsTheBoundaries :
    (anchored (up .camped)).Settled ∧ (anchored (up .camped)).air.anchor = some anAnchor := by decide +kernel

theorem meets_NextFrameIsTheEarliest : 0 < 128 ∧ 127 < 128 ∧ later 500001 anAnchor.tick = true := by decide

/-- A cell with its level at −1600/16 dB and its quality at −80/16. -/
def aCell (role : Role) : Cell :=
  { Cell.fresh theKey role 0 with level := some (-1600), quality := some (-80), samples := 3, lastSample := some 900 }

theorem meets_ExpiriesClearWhatTheyHold :
    let c : Claim := ⟨4, 7, 2, 2, 1490, 1790⟩
    let p : Cell := { aCell .listed with penalty := 16, penaltyUntil := some 2000 }
    let b : Cell := { aCell .barred with before := some .found, barredUntil := some 2000 }
    (({ up .camped with air := { (up .camped).air with peers := [c] } } : State).air.peers.find?
        (fun d => d.station == 4 && d.id == 7) = some c)
      ∧ (withCells (up .camped) [p]).cell? theKey = some p ∧ p.penaltyUntil = some 2000
      ∧ (withCells (up .camped) [b]).cell? theKey = some b ∧ b.barredUntil = some 2000
      ∧ ({ up .camped with pag := { (up .camped).pag with edgeHold := some 2000 } } : State).Settled
      ∧ ({ up .camped with cmd := { (up .camped).cmd with linger := some 2000 } } : State).Settled
      ∧ ({ up .camped with pag := { (up .camped).pag with info := some ⟨none, .sent, some 2000⟩ } } : State).Settled := by
  decide +kernel

/-! ### … cells, scanning and camping -/

/-- The part in a service state with theKey SERVING and newKey LISTED, the latter with a level and quality. -/
def served (st : ServiceState) : State :=
  withCells (up st) [aCell .serving, { aCell .listed with key := newKey }]

def paramsRecord : RxRecord := parcelOf 40 ([6, 64, 5] ++ List.replicate 20 0)

theorem meets_CellParamsComeIntoForce :
    ((given (up .camped) paramsRecord).Receives 40 paramsRecord
        ∧ (given (up .camped) paramsRecord).isServingKey (keyAt paramsRecord.payload 1) = false)
      ∧ (given (served .camped) paramsRecord).Receives 40 paramsRecord
        ∧ (given (served .camped) paramsRecord).isServingKey (keyAt paramsRecord.payload 1) = true
        ∧ (served .camped).pag.running = false := by decide +kernel

theorem meets_SamplesAreFiltered : ∀ f, (aCell .listed).level = some f → -2240 ≤ f ∧ f ≤ -704 := by
  intro f h
  obtain rfl : (-1600 : Int) = f := Option.some.inj h
  decide

/-- CELL-LISTs of the serving cell that name newKey and a key 102, 0 not in the table. -/
def listKnown : RxRecord := parcelOf 41 [6, 64, 5, 1, 6, 81, 255, 3]
def listUnknown : RxRecord := parcelOf 41 [6, 64, 5, 1, 6, 96, 0, 253]

theorem meets_CellListSetsTheNeighbours :
    ((given (up .camped) listKnown).Receives 41 listKnown
        ∧ (given (up .camped) listKnown).isServingKey (keyAt listKnown.payload 1) = false)
      ∧ ((given (served .camped) listKnown).Receives 41 listKnown
        ∧ (given (served .camped) listKnown).isServingKey (keyAt listKnown.payload 1) = true
        ∧ ((listEntries listKnown.payload).map Prod.fst).Nodup
        ∧ ∀ e ∈ listEntries listKnown.payload, ((given (served .camped) listKnown).cell? e.1).isSome = true)
      ∧ (given (served .camped) listUnknown).Receives 41 listUnknown
        ∧ listEntries listUnknown.payload = [(⟨102, 0⟩, -3)] ∧ (given (served .camped) listUnknown).cell? ⟨102, 0⟩ = none
        ∧ (given (served .camped) listUnknown).meas.cells.length < 16 := by decide +kernel

/-- A report with an id and flags, of one sample of newKey or of key 102, 0. -/
def reportKnown (id flags : Nat) : RxRecord := parcelOf 42 [id, flags, 1, 6, 81, 255, 93, 236]
def reportUnknown (id : Nat) : RxRecord := parcelOf 42 [id, 0, 1, 6, 96, 0, 93, 236]
def inRound (s : State) (f : Round → Round) : State :=
  { s with meas := { s.meas with rounds := [f (aRound .sent)] } }

theorem meets_MeasureReportsAreUsed :
    let s := inRound (served .linked) id
    let e := inRound (served .linked) fun q => { q with outcome := some .fullTime, order := some [newKey] }
    let d := inRound (served .camped) fun q => { q with silence := some 2000 }
    ((given (served .camped) (reportKnown 0 0)).Receives 42 (reportKnown 0 0)
        ∧ (served .camped).svc.state ∉ [.linked, .switching, .returning])
      ∧ (samplesAt (reportKnown 1 1).payload 4 5 1 = [⟨newKey, -93, -20⟩] ∧ s.round? 1 = some (aRound .sent)
        ∧ (s.cell? newKey).map (·.role) = some .listed)
      ∧ ((given e (reportKnown 1 1)).Receives 42 (reportKnown 1 1) ∧ (u8 (reportKnown 1 1).payload 2).testBit 0 = true
        ∧ e.round? 1 = some { aRound .sent with outcome := some .fullTime, order := some [newKey] }
        ∧ e.svc.state ∉ [.camped, .scanning])
      ∧ ((given s (reportUnknown 1)).Receives 42 (reportUnknown 1) ∧ s.cell? ⟨102, 0⟩ = none ∧ s.meas.cells.length < 16)
      ∧ ((given (served .switching) (reportKnown 0 0)).Receives 42 (reportKnown 0 0)
        ∧ (served .switching).svc.state ∈ [.switching, .returning])
      ∧ d.Ready ∧ d.round? 1 = some { aRound .sent with silence := some 2000 }
        ∧ d.svc.state ≠ .scanning := by decide +kernel

/-- A round that a last report without samples completes, in CAMPED since tick 0. -/
def completing (s : State) (now : Tick) : State :=
  let s := inRound (withSvc s fun v => { v with campTick := some 0 }) fun q => { q with outcome := some .fullTime }
  { s with air := { s.air with now := now } }

def lastReport : RxRecord := parcelOf 42 [1, 1, 0]

/-- The serving cell passes or not (−100 and −125 dBm), and newKey is 10 dB better than it or equal to it. -/
def evaluating (serving neighbour : Int) (now : Tick) : State :=
  completing
    (withSvc
      (withCells (up .camped)
        [{ aCell .serving with level := some serving },
          { aCell .listed with key := newKey, level := some neighbour, betterSince := some 0 }])
      fun v => { v with unsuitable := 1 })
    now

theorem meets_MeasureReportsAreUsed_evaluation :
    let q : Round := { aRound .sent with outcome := some .fullTime }
    let c (f : Int) : Cell := { aCell .listed with key := newKey, level := some f, betterSince := some 0 }
    let calm := given (evaluating (-1600) (-1600) 70000) lastReport
    let better := given (evaluating (-1600) (-1440) 70000) lastReport
    let early := given (evaluating (-1600) (-1440) 32767) lastReport
    let lost := given (evaluating (-2000) (-1600) 70000) lastReport
    let alone := given (evaluating (-2000) (-2000) 70000) lastReport
    (∀ s ∈ [calm, better, early, lost, alone], s.Completes lastReport q ∧ s.svc.state = .camped ∧ s.PlanClear ∧ s.pag.info = none)
      ∧ (calm.servingTest = true ∧ calm.meas.cells.all (fun d => !calm.idleCandidate d) = true)
      ∧ (early.servingTest = true ∧ elapsed early.now 0 < 32768)
      ∧ (better.servingTest = true ∧ (c (-1440)).RanksFirst (better.meas.cells.filter better.idleCandidate)
        ∧ 32768 ≤ elapsed better.now 0 ∧ (did .measureReport better).svc.camp.map (·.purpose) = some .reselect)
      ∧ (lost.servingTest = false ∧ (c (-1600)).RanksFirst (lost.meas.cells.filter (·.neighbourTest lost.meas.params))
        ∧ (did .measureReport lost).svc.camp.map (·.purpose) = some .loss)
      ∧ alone.servingTest = false ∧ alone.meas.cells.all (fun d => !d.neighbourTest alone.meas.params) = true
        ∧ (did .measureReport alone).svc.state = .scanning := by decide +kernel

def scanning (f : Scan → Scan) : State := withSvc (served .scanning) fun v => { v with scan := some (f Scan.fresh) }

/-- A SCAN-RESULT for a window with these entry bytes. -/
def scanResult (id : Nat) (entries : List Nat) : RxRecord := parcelOf 43 ([id, entries.length / 6] ++ entries)
def awaitedScan : State := scanning fun c => { c with window := some 1, order := .sent, deadline := some 2000 }

theorem meets_ScansAreRepeated :
    ((scanning fun c => { c with retry := some 2000 }).Ready ∧ (scanning fun c => { c with retry := some 2000 }).PlanClear)
      ∧ (awaitedScan.Ready ∧ awaitedScan.PlanClear ∧ awaitedScan.svc.scan.bind (·.deadline) = some 2000
        ∧ 32768 < 2 * awaitedScan.svc.backoff)
      ∧ (given awaitedScan (scanResult 1 [])).Receives 43 (scanResult 1 []) ∧ awaitedScan.svc.state = .scanning
        ∧ awaitedScan.svc.scan.bind (·.window) = some (u8 (scanResult 1 []).payload 1)
        ∧ u8 (scanResult 1 []).payload 2 = 0 := by decide +kernel

/-- A full plan none of whose windows is less urgent: the request finds a span and nothing to displace (R62); and a confirming
round at its silence deadline. -/
theorem meets_ScansAreRepeated_refused :
    let s := withPlan (scanning fun c => { c with retry := some 2000 }) eightWindows
    let q : Request := .floating .scan .service 16384 2000 none
    let d := inRound (scanning fun c => { c with confirm := some 1 }) fun r => { r with silence := some 2000 }
    (s.Ready ∧ s.svc.scan = some { Scan.fresh with retry := some 2000 } ∧ 8 ≤ s.air.plan.length
        ∧ (∀ w ∈ s.air.plan, w.cls ≤ WinKind.scan.cls)
        ∧ (((s.reach 2000).place q).isSome = true)
        ∧ (did .scanRetry s).svc.scan = some { Scan.fresh with retry := some 34768 })
      ∧ d.Ready ∧ d.PlanClear ∧ d.svc.scan = some { Scan.fresh with confirm := some 1 }
        ∧ d.round? 1 = some { aRound .sent with silence := some 2000 } ∧ 32768 < 2 * d.svc.backoff := by decide +kernel

/-- newKey at −70 dBm and −10 dB, not flagged or flagged as barred. -/
def oneFound (id flags : Nat) : RxRecord := scanResult id [6, 81, 255, 70, 236, flags]

theorem meets_ScanResultsFindACell :
    let c : Cell := { aCell .listed with key := newKey }
    ((given (served .camped) (oneFound 1 0)).Receives 43 (oneFound 1 0) ∧ (served .camped).svc.state ≠ .scanning)
      ∧ (scanEntries (oneFound 2 1).payload = [(⟨newKey, -70, -20⟩, true)] ∧ awaitedScan.cell? newKey = some c
        ∧ (∀ d ∈ awaitedScan.meas.cells, d.key = newKey → d = c) ∧ awaitedScan.svc.scan.bind (·.window) ≠ some 2)
      ∧ (given awaitedScan (oneFound 1 0)).Receives 43 (oneFound 1 0)
        ∧ scanEntries (oneFound 1 0).payload = [(⟨newKey, -70, -20⟩, false)]
        ∧ (c.sampled (effectiveK awaitedScan.meas.params.kIdle awaitedScan.svc.mobility) (-70) (-20) 990).neighbourTest
          awaitedScan.meas.params = true := by decide +kernel

/-- newKey lacks its second sample, so a confirming round is asked for; and one completed, after which theKey passes. -/
theorem meets_ScanResultsFindACell_confirm :
    let c : Cell := Cell.fresh newKey .found 0
    let s := given (withCells awaitedScan [c, Cell.fresh theKey .listed 0]) (oneFound 1 0)
    let d := c.sampled (effectiveK s.meas.params.kIdle s.svc.mobility) (-70) (-20) 990
    let q : Round := { aRound .sent with outcome := some .fullTime }
    let e := given (inRound (withCells (scanning fun v => { v with confirm := some 1, candidates := [theKey] }) [aCell .found])
      fun _ => q) lastReport
    (s.Receives 43 (oneFound 1 0) ∧ s.cell? newKey = some c ∧ c.neighbour = true ∧ c.samples = 0 ∧ s.PlanClear
        ∧ s.meas.rounds = [] ∧ s.svc.scan.bind (·.deadline) = some 2000 ∧ d.strong s.meas.params = true
        ∧ scanEntries (oneFound 1 0).payload = [(⟨newKey, -70, -20⟩, false)]
        ∧ (did .scanResult s).meas.rounds.map (fun r => (r.start, r.len, r.capacity)) = [(1099, 65, 2)])
      ∧ e.Completes lastReport q ∧ e.svc.scan.bind (·.confirm) = some 1 ∧ e.svc.state = .scanning ∧ e.PlanClear
        ∧ e.cell? theKey = some (aCell .found) ∧ (aCell .found).neighbourTest e.meas.params = true
        ∧ (did .measureReport e).svc.camp.map (·.target) = some theKey := by decide +kernel

def aCamp : Camp where
  target := newKey
  purpose := .scan
  barredOrigin := false
  notRun := 0
  peerBlocked := false
  peerStation := none
  window := none
  req := .sent
  deadline := some 2000

def camping : State := withSvc (served .camping) fun v => { v with camp := some aCamp }

/-- A result for a key with an outcome and a code, and the anchor 1000, 500000 − 990, 7. -/
def campResult (topic outcome : Nat) (key : List Nat) : RxRecord := parcelOf topic (key ++ [outcome, 9, 3, 232, 0, 10, 7])

theorem meets_CampAttemptsEnd :
    let r := campResult 45 0 [6, 81, 255]
    ((given (up .camped) r).Receives 45 r ∧ (up .camped).svc.camp = none)
      ∧ ((given camping r).Receives 45 r ∧ (given camping r).PlanClear ∧ camping.svc.camp = some aCamp
        ∧ camping.svc.state = .camping ∧ keyAt r.payload 1 = aCamp.target ∧ (camping.cell? newKey).isSome = true
        ∧ camping.pag.running = false ∧ camping.meas.rounds = [] ∧ u8 r.payload 4 = 0 ∧ camping.svc.anyNeed = false)
      ∧ (given camping (campResult 45 1 [6, 81, 255])).Receives 45 (campResult 45 1 [6, 81, 255])
        ∧ u8 (campResult 45 1 [6, 81, 255]).payload 4 ≠ 0 ∧ 32768 < 2 * camping.svc.backoff ∧ camping.Ready := by
  decide +kernel

/-- A camp attempt whose ACCESS window 1 is ACTIVE, for RESELECT from a serving cell that passes the test or does not. -/
def reselecting (level : Int) : State :=
  let s := withSvc (withPlan (withCells (up .camping)
      [{ aCell .serving with level := some level }, { aCell .listed with key := newKey }])
      [aWindow .access .service 900 4177 .active]) fun v =>
    { v with camp := some { aCamp with purpose := .reselect, window := some 1 }, reported := some .camped }
  { s with air := { s.air with anchor := some anAnchor } }

theorem meets_CampAttemptsEnd_windows :
    let r (n : Nat) := campResult 45 n [6, 81, 255]
    let w := aWindow .access .service 900 4177 .active
    let scan := withSvc (withPlan camping [w]) fun v => { v with camp := some { aCamp with window := some 1 } }
    ((given scan (r 0)).Receives 45 (r 0) ∧ scan.air.peers = [] ∧ scan.air.plan = [w] ∧ w.id = 1 ∧ w.owner = .service
        ∧ w.state = .active ∧ (did .campResult (given scan (r 0))).svc.state = .camped)
      ∧ (∀ f ∈ [-1600, -2000], (given (reselecting f) (r 1)).Receives 45 (r 1)
        ∧ (reselecting f).air.peers = [] ∧ (reselecting f).air.plan = [w] ∧ (reselecting f).svc.camp.bind (·.window) = some 1
        ∧ (reselecting f).svc.state = .camping ∧ (reselecting f).meas.rounds = [] ∧ (reselecting f).pag.running = false)
      ∧ ((reselecting (-1600)).servingTest = true ∧ (reselecting (-1600)).svc.anyNeed = false
        ∧ (did .campResult (given (reselecting (-1600)) (r 1))).svc.state = .camped)
      ∧ (reselecting (-2000)).servingTest = false
        ∧ (did .campResultDeadline (reselecting (-2000))).svc.state = .scanning := by decide +kernel

theorem meets_MobilityFallsAfterCalm :
    let e : RingEntry := ⟨900, none, theKey, true⟩
    let s := withSvc (up .camped) fun v => { v with ring := [e], mobility := .high, calmSince := some 950 }
    s.Ready ∧ s.svc.ring.find? (fun d => d.counted && d.tick == e.tick) = some e ∧ s.svc.calmSince = some 950 := by
  decide +kernel

/-! ### … the radio connection -/

def connecting (n : Nat) : State :=
  withSvc (served .connecting) fun v =>
    { v with conn := { v.conn with retries := n, req := .sent, deadline := some 2000 }, needPage := some .call }

theorem meets_LinkAttemptsEnd :
    ((given (up .camped) (parcelOf 46 [0, 0])).Receives 46 (parcelOf 46 [0, 0]) ∧ (up .camped).svc.state ≠ .connecting)
      ∧ ((given (connecting 0) (parcelOf 46 [0, 0])).Receives 46 (parcelOf 46 [0, 0]) ∧ (connecting 0).PlanClear
        ∧ (connecting 0).svc.conn.req = .sent ∧ (connecting 0).svc.conn.window = none)
      ∧ ((given (connecting 1) (parcelOf 46 [1, 0])).Receives 46 (parcelOf 46 [1, 0])
        ∧ (given (connecting 1) (parcelOf 53 [0])).Receives 53 (parcelOf 53 [0])
        ∧ (connecting 1).svc.conn.deadline = some 2000 ∧ (connecting 1).svc.conn.retries < 2)
      ∧ ((connecting 2).svc.conn.retries = 2 ∧ (connecting 2).svc.conn.peerBlocked = false ∧ (connecting 2).calls.table = []
        ∧ (connecting 2).text.outbound = [] ∧ (connecting 2).text.exchange = .none ∧ (connecting 2).meas.rounds = [])
      ∧ (given (up .camped) (parcelOf 53 [0])).Receives 53 (parcelOf 53 [0])
        ∧ (up .camped).svc.state ∉ [.connecting, .linked, .switching, .returning] := by decide +kernel

/-- LINKED with an ACTIVE or STANDING TRAFFIC window from 900 to 17284, absent from traffic since 950. -/
def linked (st : WinState) : State :=
  withSvc (withPlan (served .linked) [aWindow .traffic .service 900 17284 st]) fun v =>
    { v with traffic := { v.traffic with since := some 950, retry := some 2000, close := some 3000 } }

theorem meets_ConnectionIsLost :
    (linked .standing).Ready ∧ (linked .standing).air.peers = []
      ∧ (∀ w ∈ (linked .standing).air.plan, w.owner = .service ∧ w.kind = .traffic) ∧ (linked .standing).meas.rounds = []
      ∧ (linked .standing).svc.state = .linked
      ∧ (linked .standing).svc.needStore = (linked .standing).text.exchange.needsStore
      ∧ (linked .standing).svc.traffic.since = some 950
      ∧ (given (linked .standing) (parcelOf 53 [0])).Receives 53 (parcelOf 53 [0]) := by decide +kernel

theorem meets_TrafficIsKept :
    let w := aWindow .traffic .service 900 17284 .active
    let late : State := { linked .active with air := { (linked .active).air with now := 17284 - 8192 } }
    ((linked .active).Ready ∧ (linked .active).svc.traffic.retry = some 2000)
      ∧ ((withPlan (linked .active) []).Ready ∧ (withPlan (linked .active) []).PlanClear
        ∧ (withPlan (linked .active) []).svc.state = .linked)
      ∧ (late.Ready ∧ late.air.plan = [w] ∧ late.air.peers = [] ∧ late.activeChunk 1 = some w ∧ w.cls = 1
        ∧ late.now = before w.stop 8192)
      ∧ ((linked .active).svc.traffic.since = some 950 ∧ (linked .active).svc.traffic.gapFlag = false
        ∧ (linked .active).air.plan.find? (·.isTraffic) = some w)
      ∧ ((linked .standing).air.plan = [{ w with state := .standing }] ∧ ({ w with state := .standing } : Window).isTraffic = true)
      ∧ (linked .active).svc.traffic.close = some 3000 ∧ (linked .active).svc.anyNeed = false
        ∧ (linked .active).meas.rounds = [] ∧ (linked .active).ho.report = none := by decide +kernel

/-- The gap check with the next chunk PLANNED, or OFFERED with its CLAIM queued or being sent. -/
def gapped (st : WinState) (beingSent : Bool) : State :=
  let e := aClaim .traffic 1200 17584
  let s := withSvc (withPlan (served .linked) [aWindow .traffic .service 1200 17584 st]) fun v =>
    { v with traffic := { v.traffic with since := some 950 } }
  let s : State := { s with air := { s.air with idCounter := 1 } }
  if st = .planned then s
  else if beingSent then sending s e
  else { s with line := { s.line with txq := [e], nextSerial := 1 } }

theorem meets_TrafficIsKept_unsent :
    (∀ b ∈ [true, false], ∀ st ∈ [WinState.planned, .offered],
        (gapped st b).Ready ∧ (gapped st b).svc.traffic.gapFlag = false ∧ (gapped st b).svc.traffic.since = some 950
          ∧ (gapped st b).air.plan = [aWindow .traffic .service 1200 17584 st]
          ∧ (did .gapCheck (gapped st b)).air.plan.map (fun w => (w.id, w.state)) = [(2, .offered)]
          ∧ ∀ e ∈ (gapped st b).line.held, e.serial ≠ 0)
      ∧ ((gapped .offered true).line.isBeingSent 0 = true ∧ (did .gapCheck (gapped .offered true)).air.owed = [⟨0, 1, 1⟩])
      ∧ (gapped .offered false).line.isBeingSent 0 = false
        ∧ (did .gapCheck (gapped .offered false)).line.txq.map (·.serial) = [1] := by decide +kernel

/-! ### … handover -/

def reporting : State :=
  { served .linked with ho := { Handover.reset with reported := [newKey], nextReport := some 2000 } }

theorem meets_ReportsAndOrders :
    let r := parcelOf 50 [6, 81, 255, 100]
    (({ up .linked with ho := { Handover.reset with nextReport := some 2000 } } : State).Ready)
      ∧ (reporting.Ready ∧ reporting.ho.nextReport = some 2000 ∧ reporting.ho.count < reporting.meas.params.repCount
        ∧ reporting.serving? = some (aCell .serving) ∧ reporting.ho.reported = [newKey]
        ∧ (reporting.cell? newKey).bind (·.level) = some (-1600))
      ∧ ({ reporting with ho := { reporting.ho with count := 4 } } : State).meas.params.repCount ≤ 4
      ∧ (given (up .camped) r).Receives 50 r
      ∧ ((given (served .linked) r).Receives 50 r ∧ (served .linked).PlanClear ∧ (served .linked).svc.state = .linked
        ∧ (served .linked).serving? = some (aCell .serving) ∧ keyAt r.payload 1 ≠ theKey
        ∧ ((served .linked).cell? (keyAt r.payload 1)).isSome = true) := by decide +kernel

/-- The connected evaluation after a report without samples: theKey serves at −100 dBm, newKey stands 10 dB above it since a
tick, 3 dB above it, or has no level, in the set or not. -/
def ranking (level : Option Int) (since : Option Tick) (member : Bool) : State :=
  let s := withCells (up .linked)
    [aCell .serving, { aCell .listed with key := newKey, level := level, betterSince := since }]
  { s with ho := { s.ho with reported := if member then [newKey] else [], nextReport := if member then some 3000 else none } }

theorem meets_ReportsAndOrders_ranking :
    let r := parcelOf 42 [0, 0, 0]
    let d (level : Option Int) (since : Option Tick) : Cell :=
      { aCell .listed with key := newKey, level := level, betterSince := since }
    let e : Int := -1600 + 16 * 3
    let none_ := withCells (up .linked) [{ aCell .serving with level := none }]
    let since : Tick := before (1000 : Tick) 5242
    ((given none_ r).Receives 42 r ∧ (given none_ r).CellsHold ∧ none_.serving?.bind (·.level) = none)
      ∧ (∀ s ∈ [ranking (some (-1440)) (some since) false, ranking (some (-1440)) none false, ranking (some (-1552)) none true,
            ranking none none true],
          (given s r).Receives 42 r ∧ s.CellsHold ∧ s.serving? = some (aCell .serving) ∧ s.ho.report = none
            ∧ ∀ c ∈ s.meas.cells, c.key ≠ newKey → c.rankAbove e = false)
      ∧ ((d (some (-1440)) (some since)).rankAbove e = true
        ∧ (ranking (some (-1440)) (some since) false).scaled (8 * 16384 / 25) = elapsed (1000 : Tick) since
        ∧ (did .measureReport (given (ranking (some (-1440)) (some since) false) r)).ho.reported = [newKey])
      ∧ (elapsed (1000 : Tick) 1000 < 5242
        ∧ (did .measureReport (given (ranking (some (-1440)) none false) r)).ho.reported = [])
      ∧ ((d (some (-1552)) none).rankAbove e = false ∧ (d (some (-1552)) none).rankAbove (e - 16) = true
        ∧ (did .measureReport (given (ranking (some (-1552)) none true) r)).ho.reported = [newKey])
      ∧ (d none none).rankAbove e = false ∧ (did .measureReport (given (ranking none none true) r)).ho.reported = [] := by
  decide +kernel

def aSwitch (phase : SwitchPhase) : Switch where
  phase := phase
  target := newKey
  old := theKey
  ticks := 1638
  latest := 3000
  window := none
  req := .sent
  cause := if phase = .return_ then some .noResult else none
  ended := false

/-- In a switch or a return, with two parcels held back. -/
def switching (phase : SwitchPhase) : State :=
  { served (if phase = .switch then .switching else .returning) with
    ho := { Handover.reset with
      switch := some (aSwitch phase), uplink := [⟨.call, 60, [2, 0]⟩, ⟨.text, 59, [2]⟩] } }

/-- The same with the phase's SWITCH window ACTIVE. -/
def windowed (phase : SwitchPhase) : State :=
  let s := withPlan (switching phase) [aWindow .switch .handover 900 2538 .active]
  { s with
    air := { s.air with idCounter := 1 }
    ho := { s.ho with switch := some { aSwitch phase with window := some 1 } } }

/-- The result of a phase with a window, and what it leaves: the service state, the plan, and the send queue but for NOTICEs. -/
def phaseResult (p : SwitchPhase) (n : Nat) : RxRecord := campResult 51 n (if p = .switch then [6, 81, 255] else [6, 64, 5])
def decided (p : SwitchPhase) (n : Nat) : State := did .switchResult (given (windowed p) (phaseResult p n))
def leftBy (t : State) : ServiceState × List (Nat × WinKind) × List (Nat × Nat) :=
  (t.svc.state, t.air.plan.map (fun w => (w.id, w.kind)), (t.line.txq.filter (·.topic != 33)).map fun e => (e.serial, e.topic))

theorem meets_SwitchesAreDecided_window :
    ∀ p ∈ [SwitchPhase.switch, .return_], ∀ n ∈ [0, 1],
      (given (windowed p) (phaseResult p n)).Receives 51 (phaseResult p n) ∧ (windowed p).pag.running = false
        ∧ (windowed p).ho.switch.map (·.window) = some (some 1)
        ∧ ((decided p n).line.txq.filter (·.serial == 0)).map (·.payload) = [[255, 1, 0, 0]] := by decide +kernel

/-- The four decisions with the window ACTIVE: its WITHDRAW is the first parcel, then the held ones after a success, and the plan
holds what the outcome asks for. The queue is in the order of the tags: SWITCH is of class 0, TRAFFIC of class 1, SCAN of class 5. -/
theorem test_switch_decided :
    [decided .switch 0, decided .return_ 0, decided .switch 1, decided .return_ 1].map leftBy =
      [(.linked, [(2, .traffic)], [(0, 2), (3, 1), (2, 59), (1, 60)]),
        (.linked, [(2, .traffic)], [(0, 2), (3, 1), (2, 59), (1, 60)]),
        (.returning, [(2, .switch)], [(1, 1), (0, 2)]), (.scanning, [(2, .scan)], [(0, 2), (1, 1)])] := by decide +kernel

theorem meets_SwitchesAreDecided_plan : ∀ p, (windowed p).PlanOnly .handover (some 1) := by
  intro p
  exact ⟨rfl, .inr ⟨_, rfl, rfl, rfl, rfl, by decide⟩⟩

theorem meets_SwitchesAreDecided :
    let r (n : Nat) := campResult 51 n [6, 81, 255]
    let q (n : Nat) := campResult 51 n [6, 64, 5]
    ((given (up .linked) (r 0)).Receives 51 (r 0) ∧ (up .linked).ho.switch = none)
      ∧ ((given (switching .switch) (r 0)).Receives 51 (r 0) ∧ (switching .switch).air.plan = []
        ∧ (switching .switch).air.peers = [] ∧ (switching .switch).pag.running = false ∧ (switching .switch).svc.state = .switching
        ∧ keyAt (r 0).payload 1 = newKey ∧ ((switching .switch).cell? newKey).isSome = true ∧ u8 (r 0).payload 4 = 0
        ∧ (given (switching .switch) (r 1)).Receives 51 (r 1) ∧ u8 (r 1).payload 4 ≠ 0
        ∧ (switching .switch).svc.traffic.since = none ∧ (switching .switch).svc.traffic.close = none)
      ∧ (given (switching .return_) (q 0)).Receives 51 (q 0) ∧ (switching .return_).svc.state = .returning
        ∧ keyAt (q 0).payload 1 = theKey ∧ (given (switching .return_) (q 1)).Receives 51 (q 1)
        ∧ (switching .return_).ho.report = none
        ∧ (switching .return_).svc.needStore = (switching .return_).text.exchange.needsStore := by decide +kernel

/-- An entry of a unit that is a request to the transceiver, and the state sending it. -/
def aRequest (topic : Nat) : TxEntry := ⟨0, .service, 2, topic, [2], none, false⟩
def sendingRequest (topic : Nat) (s : State) : State := sending s (aRequest topic)

/-- Each request becomes sent with its parcel; one whose unit has a newer one does not. -/
theorem meets_SentParcelLeavesTheQueue_requests :
    let q : ReqState := .offered 0
    let camp := sendingRequest 56 (withSvc (up .camping) fun v => { v with camp := some { aCamp with req := q } })
    let link (q : ReqState) := sendingRequest 57 (withSvc (connecting 0) fun v => { v with conn := { v.conn with req := q } })
    let scan := sendingRequest 68 (withSvc (up .scanning) fun v => { v with scan := some { Scan.fresh with order := q } })
    let round := sendingRequest 66 { up .camped with meas := { (up .camped).meas with rounds := [aRound q] } }
    let info := sendingRequest 67 { up .camped with pag := { (up .camped).pag with info := some ⟨some 1, q, none⟩ } }
    let report := sendingRequest 63 { up .linked with ho := { Handover.reset with report := some 0 } }
    let turn (e : Bool) (p : SwitchPhase) := sendingRequest p.topic
      { switching p with ho := { (switching p).ho with switch := some { aSwitch p with req := q, ended := e } } }
    (camp.OnLine ∧ camp.line.entry? 0 = some (aRequest 56)
        ∧ (did .parcelSent camp).svc.camp = some { aCamp with req := .sent })
      ∧ ((link q).OnLine ∧ (did .parcelSent (link q)).svc.conn.req = .sent
        ∧ (did .parcelSent (link .unbuilt)).svc.conn.req = .unbuilt)
      ∧ (scan.OnLine ∧ (did .parcelSent scan).svc.scan = some { Scan.fresh with order := .sent })
      ∧ (round.OnLine ∧ (did .parcelSent round).meas.rounds = [aRound .sent])
      ∧ (info.OnLine ∧ (did .parcelSent info).pag.info = some ⟨some 1, .sent, none⟩)
      ∧ (report.OnLine ∧ (did .parcelSent report).ho.report = none)
      ∧ (∀ p ∈ [SwitchPhase.switch, .return_], (turn false p).OnLine ∧ (turn true p).OnLine ∧ (turn true p).PlanClear
        ∧ (did .parcelSent (turn false p)).ho.switch = some (aSwitch p))
      ∧ (did .parcelSent (turn true .switch)).svc.state = .returning
        ∧ (did .parcelSent (turn true .return_)).svc.state = .scanning := by decide +kernel

/-- The NOTICE of TEXT-ARRIVED being sent, twice more recorded since or not, with other entries of the list. -/
def noticeSent (void : Bool) (follow : Nat) (l : List NoticeEntry) : State :=
  let s := sending (up .camped) ⟨0, .command, 6, 33, [1], none, false⟩
  { s with cmd :=
    { s.cmd with notices := ⟨.textArrived, 1, [], true, follow, [7]⟩ :: l, noticeOut := some ⟨0, .textArrived, void⟩ } }

/-- The sent entry goes or is fresh with its follow-on count; of two not offered the call's NOTICE is built; a void one
changes no entry. -/
theorem meets_SentParcelLeavesTheQueue_notice :
    let call : NoticeEntry := ⟨.callState, 1, [3], false, 0, []⟩
    let after (v : Bool) (n : Nat) (l : List NoticeEntry) := did .parcelSent (noticeSent v n l)
    (∀ s ∈ [noticeSent false 0 [], noticeSent true 2 [], noticeSent false 2 [call]],
        s.OnLine ∧ s.cmd.handling = false ∧ s.cmd.noticeOut.map (·.serial) = some 0
          ∧ deriveLineState (s.line.sendTally - 1) s.line.listenTally = s.line.state)
      ∧ ((after false 0 []).cmd.notices = [] ∧ (after false 0 []).line.txq = [])
      ∧ ((after true 2 []).cmd.notices = [⟨.textArrived, 1, [], true, 2, [7]⟩] ∧ (after true 2 []).cmd.noticeOut = none)
      ∧ (after false 2 [call]).cmd.notices = [⟨.textArrived, 2, [7], false, 0, []⟩, { call with offered := true }]
        ∧ (after false 2 [call]).cmd.noticeOut = some ⟨1, .callState, false⟩
        ∧ (after false 2 [call]).line.txq.map (fun e => (e.cls, e.topic, e.payload))
          = [(5, 33, [1, 1, 1, 3, 0, 0, 0, 0, 0, 0, 0])] := by decide +kernel

/-- A STANDING window 1 of each requester, and the request its start puts into the queue. -/
def standingFor (kind : WinKind) (owner : UnitId) (s : State) : State := withPlan s [aWindow kind owner 2000 3311 .standing]

theorem meets_StandingWindowBecomesActive_requests :
    let w (kind : WinKind) (owner : UnitId) := aWindow kind owner 2000 3311 .standing
    let camp := standingFor .access .service
      (withSvc (up .camping) fun v => { v with camp := some { aCamp with window := some 1, req := .unbuilt } })
    let link := standingFor .access .service
      (withSvc (connecting 0) fun v => { v with conn := { v.conn with window := some 1, req := .unbuilt } })
    let turn (p : SwitchPhase) := standingFor .switch .handover
      { switching p with ho := { (switching p).ho with switch := some { aSwitch p with window := some 1, req := .unbuilt } } }
    let info := standingFor .info .paging
      { served .camped with pag := { (served .camped).pag with info := some ⟨some 1, .unbuilt, none⟩ } }
    let sent (s : State) := (did (.windowStart 1) s).line.txq.map fun e => (e.topic, e.payload)
    (camp.Ready ∧ camp.windowIn 1 .standing = some (w .access .service) ∧ sent camp = [(56, [2, 6, 81, 255])])
      ∧ (link.Ready ∧ link.windowIn 1 .standing = some (w .access .service) ∧ link.svc.camp = none ∧ link.svc.anyNeed = true
        ∧ sent link = [(57, [2, 1])])
      ∧ ((turn .switch).Ready ∧ (turn .switch).windowIn 1 .standing = some (w .switch .handover)
        ∧ sent (turn .switch) = [(64, [2, 1, 6, 81, 255])] ∧ sent (turn .return_) = [(65, [2, 1, 6, 64, 5])])
      ∧ info.Ready ∧ info.windowIn 1 .standing = some (w .info .paging) ∧ info.serving? = some (aCell .serving)
        ∧ sent info = [(67, [2, 1, 6, 64, 5])] := by decide +kernel

/-- LINK_DROPPED in a switch or a return, whose request is queued, and with a call and a text. -/
def dropping (phase : SwitchPhase) : State :=
  let s := switching phase
  let e : TxEntry := ⟨0, .handover, 2, phase.topic, [2, 1, 6, 81, 255], none, false⟩
  { s with
    ho := { s.ho with switch := some { aSwitch phase with req := .offered 0 } }
    line := { s.line with txq := [e], nextSerial := 1 }
    calls := { s.calls with
      timersHeld := true
      table :=
        [{ handle := 1, out := true, state := .connected, number := none, waiting := false, cause := none, timer := .off
           transaction := 0 }] }
    text := { s.text with timersHeld := true } }

theorem meets_ConnectionIsLost_switch :
    let r := parcelOf 53 [0]
    ∀ p ∈ [SwitchPhase.switch, .return_],
      ((given (dropping p) r).Receives 53 r
        ∧ ((dropping p).svc.state = .switching ∨ (dropping p).svc.state = .returning) ∧ (dropping p).air.plan = []
        ∧ (dropping p).ho.switch = some { aSwitch p with req := .offered 0 } ∧ (aSwitch p).window = none
        ∧ (dropping p).svc.needStore = (dropping p).text.exchange.needsStore
        ∧ (dropping p).line.isBeingSent 0 = false ∧ (dropping p).line.held = [] ∧ (dropping p).meas.rounds = [])
      ∧ (did .linkDropped (given (dropping p) r)).calls.table = []
        ∧ (did .linkDropped (given (dropping p) r)).ho = Handover.reset
        ∧ (did .linkDropped (given (dropping p) r)).line.txq.map (·.topic) = [33] := by decide +kernel

/-- A switch that is lost with its window OFFERED, the CLAIM queued or being sent, or STANDING or ACTIVE. -/
def droppingWindow (p : SwitchPhase) (st : WinState) (beingSent : Bool) : State :=
  let s := withPlan (switching p) [aWindow .switch .handover 1200 2838 st]
  let s : State := { s with ho := { s.ho with switch := some { aSwitch p with window := some 1, req := .unbuilt } } }
  if st != .offered then s
  else if beingSent then sending s (aClaim .switch 1200 2838)
  else { s with line := { s.line with txq := [aClaim .switch 1200 2838], nextSerial := 1 } }

theorem meets_ConnectionIsLost_window :
    let r := parcelOf 53 [0]
    let t (p : SwitchPhase) (st : WinState) (b : Bool) := did .linkDropped (given (droppingWindow p st b) r)
    ∀ p ∈ [SwitchPhase.switch, .return_],
      (∀ b ∈ [true, false], ∀ st ∈ [WinState.offered, .standing, .active],
        (given (droppingWindow p st b) r).Receives 53 r
          ∧ (droppingWindow p st b).windowOf (some 1) = some (aWindow .switch .handover 1200 2838 st)
          ∧ (∀ w ∈ (droppingWindow p st b).air.plan, w.owner = .handover ∧ w.kind = .switch ∧ some 1 = some w.id)
          ∧ (t p st b).air.plan.filter (·.kind == .switch) = [] ∧ (t p st b).ho = Handover.reset)
        ∧ (∀ st ∈ [WinState.standing, .active],
          ((t p st false).line.txq.filter (·.topic == 2)).map (·.payload) = [[255, 1, 0, 0]])
        ∧ (t p .offered true).air.owed = [⟨0, 1, WinKind.switch.cls⟩]
        ∧ (t p .offered false).line.txq.all (·.topic != 1) := by decide +kernel

/-- In a switch with a held call timer and a held acknowledgement wait. -/
def holdingTimers (phase : SwitchPhase) : State :=
  let s := switching phase
  { s with
    calls := { s.calls with
      timersHeld := true
      table :=
        [{ handle := 1, out := true, state := .calling, number := none, waiting := false, cause := none, timer := .held 500
           transaction := 0 }] }
    text := { s.text with timersHeld := true, ackWait := .held 700 } }

/-- After the switch and after the return: the two parcels, numbered in the order held and queued by tag, and both deadlines from
tick 1000. -/
theorem meets_SwitchesAreDecided_resumed :
    let done (p : SwitchPhase) (key : List Nat) :=
      did .switchResult (given (holdingTimers p) (campResult 51 0 key))
    ∀ t ∈ [done .switch [6, 81, 255], done .return_ [6, 64, 5]],
      t.svc.state = .linked ∧ (t.line.txq.filter (·.serial < 2)).map (fun e => (e.serial, e.topic)) = [(1, 59), (0, 60)]
        ∧ t.calls.table.map (·.timer) = [.running 1500] ∧ t.text.ackWait = .running 1700 := by decide +kernel

/-! ### … paging and power -/

/-- In CAMPED with one answered cycle and the anchor of the worked example; with a cycle of 128, four groups and shift 31 the index
5 gives frame 1 · 32 + 31 = 63. -/
def cycling : State :=
  let s := watching .standing .answered
  { s with
    air := { s.air with plan := [], anchor := some anAnchor, now := 530000 }
    meas := { (served .camped).meas with params := { Params.default with shift := 31 } }
    pag := { s.pag with cycles := [{ aCycle .answered with stop := 530400 }] } }

theorem meets_NextCycleIsPlanned :
    let c : Cycle := { aCycle .answered with stop := 530400 }
    let f := anAnchor.nextFrame 128 (5 % 4 * (128 / 4) + 31) (laterOf (after (530400 : Tick) 99) c.stop)
    let quiet : State := { up .camped with pag := { (up .camped).pag with cycles := [aCycle .waiting] } }
    (quiet.Ready ∧ quiet.pag.cycles = [aCycle .waiting] ∧ quiet.pag.running = false)
      ∧ cycling.Ready ∧ cycling.PlanClear ∧ cycling.meas.rounds = [] ∧ cycling.pag.running = true ∧ cycling.pag.cycles = [c]
        ∧ c.ended = false ∧ cycling.air.anchor = some anAnchor ∧ cycling.cmd.setup = some aSetup
        ∧ (cycling.reach c.stop).now = 530400 ∧ earlier f.2.1 (after (530400 : Tick) 99) = false
        ∧ later f.2.1 (after (530400 : Tick) (2 ^ 30)) = false ∧ earlier f.2.2 (after (530400 : Tick) 99) = false
        ∧ later f.2.2 (after (530400 : Tick) (2 ^ 30)) = false := by decide +kernel

/-- A PAGE-RESULT for watch 1 that names nobody, or the own identity with a kind. -/
def nobodyPaged : RxRecord := parcelOf 44 [1, 3, 232, 0, 10, 7, 0, 0]
def paged (kind : Nat) : RxRecord := parcelOf 44 [1, 3, 232, 0, 10, 7, 0, 1, 18, 52, 86, 120, kind]

theorem meets_WatchesAreAnsweredOrMissed :
    let s := withPlan (watching .active .awaiting) []
    let d : State := { s with pag := { s.pag with cycles := [{ aCycle .awaiting with deadline := some 5605 }] } }
    ((given (up .camped) nobodyPaged).Receives 44 nobodyPaged ∧ (up .camped).pag.running = false)
      ∧ ((given s nobodyPaged).Receives 44 nobodyPaged ∧ s.pag.running = true ∧ s.pag.cycles = [aCycle .awaiting]
        ∧ (aCycle .awaiting).watch = some (u8 nobodyPaged.payload 1) ∧ s.pag.planOwed = false
        ∧ (∀ e ∈ pagedEntries nobodyPaged.payload, e.1 ≠ aSetup.identity.toNat)
        ∧ (u8 nobodyPaged.payload 7).testBit 0 = false)
      ∧ ((given s (paged 0)).Receives 44 (paged 0) ∧ s.PlanClear ∧ s.svc.state = .camped ∧ s.svc.needPage = none
        ∧ s.pag.info = none ∧ (aSetup.identity.toNat, 0) ∈ pagedEntries (paged 0).payload)
      ∧ ((given s (paged 1)).Receives 44 (paged 1) ∧ (aSetup.identity.toNat, 1) ∈ pagedEntries (paged 1).payload
        ∧ (aSetup.identity.toNat, 0) ∉ pagedEntries (paged 1).payload)
      ∧ d.Ready ∧ d.pag.cycles = [{ aCycle .awaiting with deadline := some 5605 }] := by decide +kernel

def dozing (p : Power) : State := { up .camped with pag := { (up .camped).pag with power := p, wake := some 2000 } }

theorem meets_PowerStatesAreEnteredAndLeft :
    let s := up .camped
    (s.Settled ∧ s.pag.power = .awake ∧ s.line.joined = true ∧ s.line.phase = .idle ∧ s.line.state ≠ .detached
        ∧ s.svc.state = .camped ∧ s.calls.table = [] ∧ s.text.outbound = [] ∧ s.line.rxq = [] ∧ s.line.txq = []
        ∧ s.line.held = [] ∧ s.cmd.notices = [] ∧ s.text.pendingRead = none ∧ s.pag.wakeHold = false ∧ s.cmd.linger = none
        ∧ s.pag.edgeHold = none ∧ s.air.plan = [] ∧ s.pag.cycles = [] ∧ s.meas.rounds = [] ∧ s.svc.scan = none
        ∧ s.pag.info = none ∧ s.dueStarts ++ s.dueTimers = [])
      ∧ ((up .unset).Settled ∧ (up .unset).svc.state = .unset ∧ (up .unset).pag.power = .awake)
      ∧ ((up .shelved).Settled ∧ (up .shelved).svc.state = .shelved)
      ∧ ((dozing .doze).Settled ∧ (dozing .doze).pag.power = .doze ∧ (dozing .doze).pag.wake = some 2000)
      ∧ (dozing .shelved).Settled ∧ (dozing .shelved).pag.power = .shelved := by decide +kernel

/-- The first two doze or shelve; each of the others keeps one condition from holding, and stays AWAKE. -/
theorem meets_PowerStatesAreEnteredAndLeft_refused :
    let on (s : State) (f : Line → Line) : State := { s with line := f s.line }
    (did .dozeEntry (up .camped)).pag.power = .doze ∧ (did .shelvedEntry (up .shelved)).pag.power = .shelved
      ∧ (∀ s ∈ [up .unset, up .linked, on (up .camped) fun l => { l with joined := false },
            on (up .camped) fun l => { l with rate := 0, phase := .holdoff, wait := .mark 1000 },
            on (up .camped) fun l => { l with held := [anEntry] }, on (up .camped) fun l => { l with rxq := [parcelOf 9 []] },
            withPlan (up .camped) [aWindow .watch .paging 900 1228 .active],
            withPlan (up .camped) [aWindow .watch .paging 1355 1683 .standing],
            withText (up .camped) fun x => { x with pendingRead := some ⟨1, 24, 8, 0⟩ },
            { up .camped with pag := { (up .camped).pag with wakeHold := true } },
            { up .camped with cmd := { (up .camped).cmd with linger := some 2000 } }],
          s.Settled ∧ (did .dozeEntry s).pag.power = .awake)
      ∧ ∀ s ∈ [up .camped, on (up .shelved) fun l => { l with txq := [anEntry] },
            { up .shelved with pag := { (up .shelved).pag with edgeHold := some 2000 } }],
          s.Settled ∧ (did .shelvedEntry s).pag.power = .awake := by decide +kernel

/-! ### … start of service, shelving and restart -/

/-- A SETUP that names host 1 and transceiver 2, the index 1023 and a settle exponent. -/
def setupRecord (host index settle : Nat) : RxRecord :=
  parcelOf 8 [9, 18, 52, 86, 120, index / 256, index % 256, host, 2, settle, 255, 255]

/-- Before SETUP. -/
def fresh : State := { up .unset with cmd := Command.reset, svc := Service.reset }

theorem meets_SetupBeginsService :
    ((given (up .camped) (setupRecord 1 5 7)).Commanded 8 (setupRecord 1 5 7) ∧ (up .camped).cmd.setup ≠ none)
      ∧ ((given fresh (setupRecord 16 5 7)).Commanded 8 (setupRecord 16 5 7) ∧ fresh.cmd.setup = none
        ∧ 15 < u8 (setupRecord 16 5 7).payload 8 ∧ 1023 < u16 (setupRecord 1 1024 7).payload 6)
      ∧ (given fresh (setupRecord 1 1023 20)).Commanded 8 (setupRecord 1 1023 20)
        ∧ u8 (setupRecord 1 1023 20).payload 8 ≠ fresh.line.station ∧ u8 (setupRecord 1 1023 20).payload 9 = 2
        ∧ u16 (setupRecord 1 1023 20).payload 6 ≤ 1023 ∧ fresh.svc.state = .unset ∧ fresh.svc.backoff = 65536
        ∧ fresh.PlanClear ∧ fresh.svc.reported = none
        ∧ (did .setup (given fresh (setupRecord 1 1023 20))).cmd.notices = [] := by decide +kernel

theorem meets_ShelvingAndWakeHold :
    ((given (up .switching) (parcelOf 11 [9])).Commanded 11 (parcelOf 11 [9])
        ∧ (up .switching).svc.state ∈ [.switching, .returning])
      ∧ ((given (linked .active) (parcelOf 11 [9])).Commanded 11 (parcelOf 11 [9]) ∧ (linked .active).calls.table = []
        ∧ (linked .active).text.outbound = [] ∧ (linked .active).svc.state ∉ [.switching, .returning])
      ∧ ((given (connecting 0) (parcelOf 11 [9])).Commanded 11 (parcelOf 11 [9]) ∧ (connecting 0).ho.report = none
        ∧ (connecting 0).air.plan = [])
      ∧ ((given (up .camped) (parcelOf 12 [9])).Commanded 12 (parcelOf 12 [9]) ∧ (up .camped).svc.state ≠ .shelved)
      ∧ ((given (up .shelved) (parcelOf 12 [9])).Commanded 12 (parcelOf 12 [9]) ∧ (up .shelved).PlanClear)
      ∧ ((given (up .camped) (parcelOf 13 [9, 2])).Commanded 13 (parcelOf 13 [9, 2]) ∧ 1 < u8 (parcelOf 13 [9, 2]).payload 2)
      ∧ (given (up .camped) (parcelOf 13 [9, 1])).Commanded 13 (parcelOf 13 [9, 1]) := by decide +kernel

/-- SHELVE removes a queued and a held request that no record names, and marks the one being sent (R120, R159, R182). -/
theorem meets_ShelvingAndWakeHold_requests :
    let left (topic : Nat) : State := given (sending (up .camped) (aRequest topic)) (parcelOf 11 [9])
    let idle (topic : Nat) : State :=
      { left topic with line := { (left topic).line with
          phase := .idle, txq := [aRequest topic], held := [{ aRequest topic with serial := 1 }], nextSerial := 2 } }
    ∀ topic ∈ [56, 57, 60, 66, 67, 68],
      (left topic).Commanded 11 (parcelOf 11 [9]) ∧ (idle topic).Commanded 11 (parcelOf 11 [9])
        ∧ (did .shelve (left topic)).line.txq.filter (·.serial == 0) = [{ aRequest topic with removal := true }]
        ∧ ((did .shelve (idle topic)).line.txq ++ (did .shelve (idle topic)).line.held).all (·.topic != topic) := by
  decide +kernel

def pendingReader (s : State) : State :=
  withText s fun x => { x with pendingRead := some { source := 1, topic := 24, reference := 8, offset := 0 } }

theorem meets_RestartBeginsAfresh :
    let s := given (pendingReader (linked .active)) (parcelOf 10 [9])
    s.Commanded 10 (parcelOf 10 [9]) ∧ s.air.peers = [] ∧ s.svc.state ∈ [.connecting, .linked, .switching, .returning]
      ∧ s.text.pendingRead = some { source := 1, topic := 24, reference := 8, offset := 0 } ∧ s.air.owed = []
      ∧ (given (crowdedWithPeers 1 (up .camped)) (parcelOf 10 [9])).Commanded 10 (parcelOf 10 [9])
      ∧ ((up .camped).air.peers = [] ∧ (up .camped).air.plan = [] ∧ (up .camped).line.txq ++ (up .camped).line.held = []) := by
  decide +kernel

theorem meets_QueriesAnswerWithoutChange :
    let row : TxEntry := { anEntry with topic := 36 }
    let held : State := { up .camped with line := { (up .camped).line with held := [row] } }
    (given (up .unset) (parcelOf 9 [9])).Commanded 9 (parcelOf 9 [9])
      ∧ ((given (served .camped) (parcelOf 29 [9])).Commanded 29 (parcelOf 29 [9]) ∧ (served .camped).line.held = [])
      ∧ (given (up .camped) (parcelOf 28 [9])).Commanded 28 (parcelOf 28 [9])
      ∧ (given held (parcelOf 30 [9])).Commanded 30 (parcelOf 30 [9]) ∧ ∃ e ∈ held.line.held, e.topic ∈ [35, 36, 37] := by
  decide +kernel

/-! ### … calls -/

/-- A call record with a handle; DIAL of 112; and a command for a handle. -/
def aCall (h : Nat) (out : Bool) (st : CallState) (tx : Nat) : Call where
  handle := h
  out := out
  state := st
  number := none
  waiting := false
  cause := none
  timer := .running 2000
  transaction := tx

def dial112 : RxRecord := parcelOf 14 [9, 3, 17, 47]
def forCall (topic h : Nat) : RxRecord := parcelOf topic [9, h, 0]

theorem meets_DialMakesACall :
    let held := withCalls (served .linked)
      [aCall 1 true .held 0, aCall 2 false .offered 0, aCall 3 true .clearing 1, aCall 4 true .clearing 2]
    ((given (up .camped) (parcelOf 14 [9, 3, 17, 46])).Commanded 14 (parcelOf 14 [9, 3, 17, 46])
        ∧ digitsOk (parcelOf 14 [9, 3, 17, 46]).payload 2 = false)
      ∧ ((given (up .camped) dial112).Commanded 14 dial112 ∧ digitsOk dial112.payload 2 = true
        ∧ (withCalls (up .linked) [aCall 1 true .holding 0]).stepInFlight = true)
      ∧ ((withCalls (up .linked) [aCall 1 true .ringback 0]).stepInFlight = false
        ∧ (withCalls (up .linked) [aCall 1 true .ringback 0]).foreground? ≠ none)
      ∧ (held.foreground? = none ∧ held.stepInFlight = false ∧ 4 ≤ held.calls.table.length)
      ∧ ((served .linked).foreground? = none ∧ (served .linked).calls.table.length < 4
        ∧ (served .linked).call? ((served .linked).nextHandle 15 ((served .linked).calls.counter % 15 + 1)) = none)
      ∧ (given (up .camped) dial112).PlanClear ∧ (up .camped).pag.info = none ∧ (up .camped).calls.table = [] := by
  decide +kernel

theorem meets_HandsetCommandsMoveCalls :
    let s (cs : List Call) := withCalls (served .linked) cs
    ((given (up .linked) (forCall 16 0)).Commanded 16 (forCall 16 0) ∧ u8 (forCall 16 0).payload 2 = 0
        ∧ 15 < u8 (forCall 16 16).payload 2 ∧ (given (up .linked) (forCall 17 15)).Commanded 17 (forCall 17 15)
        ∧ (up .linked).call? 15 = none)
      ∧ ((given (s [aCall 1 false .offered 0]) (forCall 15 1)).Commanded 15 (forCall 15 1)
        ∧ (s [aCall 1 false .offered 0]).call? 1 = some (aCall 1 false .offered 0)
        ∧ (s [aCall 1 false .offered 0]).stepInFlight = false ∧ (s [aCall 1 false .offered 0]).foreground? = none
        ∧ (s [aCall 1 false .offered 0]).noRoom 1 = false)
      ∧ ((s [aCall 1 true .connected 0]).anyHeld = false ∧ (s [aCall 1 true .held 0]).foreground? = none)
      ∧ ((s [aCall 1 true .connected 0, aCall 2 false .offered 0]).foreground? = some (aCall 1 true .connected 0)
        ∧ (s [aCall 1 true .connected 0, aCall 2 false .offered 0]).call? 2 = some (aCall 2 false .offered 0))
      ∧ ((given (s [aCall 1 true .dialing 0]) (forCall 16 1)).Commanded 16 (forCall 16 1)
        ∧ (s [aCall 1 true .dialing 0]).call? 1 = some (aCall 1 true .dialing 0)
        ∧ (s [aCall 1 true .clearing 0]).call? 1 = some (aCall 1 true .clearing 0))
      ∧ (given (s [aCall 1 true .connected 0, aCall 2 false .held 0]) (parcelOf 19 [9])).Commanded 19 (parcelOf 19 [9])
        ∧ ([aCall 1 true .connected 0, aCall 2 false .held 0].filter (·.state == .connected) = [aCall 1 true .connected 0])
        ∧ ([aCall 1 true .connected 0, aCall 2 false .held 0].filter (·.state == .held) = [aCall 2 false .held 0]) := by
  decide +kernel

/-- A CALL-EVENT of a kind for an OUT (0) or IN (1) transaction, with a code. -/
def callEvent (kind dir tx code : Nat) : RxRecord := parcelOf 47 [kind, dir, tx, code, 0]

/-- HOLDING call 1 with the deferred answer of call 2, and a swap of 1 and 2. -/
def deferring : State :=
  let s := withCalls (served .linked) [aCall 1 true .holding 0, aCall 2 false .offered 0]
  { s with calls := { s.calls with deferred := some 2 } }

def swapping : State :=
  let s := withCalls (served .linked) [aCall 1 true .holding 0, aCall 2 false .resuming 0]
  { s with calls := { s.calls with pair := some ⟨true, 0, some 1, some 2⟩ } }

theorem meets_CallEventsMoveCalls :
    let s := withCalls (served .linked) [aCall 1 true .calling 0]
    ((given (up .camped) (callEvent 0 0 0 0)).Receives 47 (callEvent 0 0 0 0) ∧ (up .camped).connected = false
        ∧ (up .linked).callOf true 0 = none ∧ (up .linked).calls.pair = none)
      ∧ ((given s (callEvent 0 0 0 0)).Receives 47 (callEvent 0 0 0 0) ∧ s.connected = true
        ∧ s.callOf (u8 (callEvent 0 0 0 0).payload 2 == 0) 0 = some (aCall 1 true .calling 0)
        ∧ s.call? 1 = some (aCall 1 true .calling 0))
      ∧ ((given deferring (callEvent 4 0 0 0)).Receives 47 (callEvent 4 0 0 0) ∧ deferring.inPair 1 = false
        ∧ deferring.call? 2 = some (aCall 2 false .offered 0) ∧ deferring.noRoom 1 = false)
      ∧ (given s (callEvent 3 0 0 17)).Receives 47 (callEvent 3 0 0 17) ∧ s.calls.deferred = none := by decide +kernel

theorem meets_CallEventsMoveCalls_swapAndOffer :
    let s := withCalls (served .linked) [aCall 1 true .calling 0]
    ((given swapping (callEvent 8 0 0 0)).Receives 47 (callEvent 8 0 0 0)
        ∧ swapping.calls.pair = some ⟨true, 0, some 1, some 2⟩ ∧ (given swapping (callEvent 9 0 0 0)).Receives 47 (callEvent 9 0 0 0))
      ∧ (given s (callEvent 10 1 3 0)).Receives 47 (callEvent 10 1 3 0) ∧ s.callOf false 3 = none
        ∧ s.calls.table.length < 4 := by decide +kernel

theorem meets_CallTimersExpire :
    let s (st : CallState) := withCalls (served .linked) [{ aCall 1 true st 0 with cause := some .local_ }]
    (∀ st ∈ [CallState.dialing, .calling, .answering, .holding, .resuming, .clearing],
        (s st).Ready ∧ (s st).call? 1 = some { aCall 1 true st 0 with cause := some .local_ } ∧ (s st).inPair 1 = false
          ∧ (s st).noRoom 1 = false)
      ∧ (up .linked).call? 1 = none ∧ swapping.Ready ∧ swapping.call? 1 = some (aCall 1 true .holding 0) := by decide +kernel

/-! ### … texts -/

/-- An outbound text to 1 of three bytes, its second unwritten. -/
def aText (st : OutState) : OutText where
  dest := [1]
  body := [some 65, none, some 67]
  state := st
  reference := 4
  goTick := 0
  segment := 1
  wait := .running 2000
  resent := false

def outbound (s : State) (os : List OutText) : State := withText s fun x => { x with outbound := os }

/-- SEND-BEGIN to 1 of a length. -/
def sendBegin (len : Nat) : RxRecord := parcelOf 20 ([9, 1, 31] ++ List.replicate 9 0 ++ [len / 256, len % 256])

theorem meets_TextsAreComposed :
    let c := outbound (up .scanning) [aText .composing]
    let full := outbound (up .scanning) [aText .queued, aText .queued, aText .queued]
    ((given (up .scanning) (sendBegin 321)).Commanded 20 (sendBegin 321) ∧ 320 < u16 (sendBegin 321).payload 13)
      ∧ (digitsOk (sendBegin 320).payload 2 = true ∧ u16 (sendBegin 320).payload 13 ≤ 320 ∧ c.composing? ≠ none)
      ∧ (full.composing? = none ∧ 3 ≤ full.text.outbound.length)
      ∧ ((given (up .scanning) (sendBegin 320)).Commanded 20 (sendBegin 320) ∧ (up .scanning).composing? = none
        ∧ (up .scanning).text.outbound.length < 3)
      ∧ ((given c (parcelOf 21 [9, 0, 1, 66])).Commanded 21 (parcelOf 21 [9, 0, 1, 66]) ∧ c.composing? = some (aText .composing)
        ∧ (given c (parcelOf 23 [9])).Commanded 23 (parcelOf 23 [9]))
      ∧ ((given c (parcelOf 22 [9])).Commanded 22 (parcelOf 22 [9]) ∧ c.svc.state ∉ [.linked, .camped])
      ∧ (given (outbound (up .camped) [aText .composing]) (parcelOf 22 [9])).PlanClear ∧ (up .camped).pag.info = none := by
  decide +kernel

def textAck (outcome : Nat) : RxRecord := parcelOf 49 [4, 1, outcome, 17]
def longText : OutText := { aText .sending with body := List.replicate 41 (some 65) }

theorem meets_SentTextsAreAcknowledged :
    let s := outbound (served .linked) [aText .sending]
    let t := outbound (served .linked) [longText]
    let v := outbound (served .linked) [{ aText .sending with resent := true }]
    ((given (up .linked) (textAck 0)).Receives 49 (textAck 0) ∧ (up .linked).sending? = none)
      ∧ ((given t (textAck 0)).Receives 49 (textAck 0) ∧ t.text.outbound = [longText] ∧ longText.segment < longText.segments)
      ∧ (s.Ready ∧ s.text.outbound = [aText .sending] ∧ (aText .sending).wait = .running 2000 ∧ (aText .sending).resent = false)
      ∧ ((given s (textAck 0)).Receives 49 (textAck 0) ∧ (aText .sending).segments ≤ (aText .sending).segment
        ∧ (given s (textAck 1)).Receives 49 (textAck 1))
      ∧ v.Ready ∧ v.text.outbound = [{ aText .sending with resent := true }] := by decide +kernel

def stored (n : Nat) : StoredText where
  number := n
  originator := [1]
  stamp := [0, 0, 0, 0, 0, 0]
  total := 1
  mask := 1
  complete := true
  seen := false
  body := List.replicate 50 65

/-- Texts 1 and 2 are stored, both unread. -/
def storing (s : State) : State := withText s fun x => { x with store := [stored 1, stored 2], unread := some 1, counter := 2 }
def readText (n off : Nat) : RxRecord := parcelOf 24 [9, n / 256, n % 256, off / 256, off % 256]
def releaseText (n : Nat) : RxRecord := parcelOf 26 [9, n / 256, n % 256]

theorem meets_StoredTextsAreRead :
    let s := storing (up .camped)
    ((given (pendingReader s) (readText 0 0)).Commanded 24 (readText 0 0) ∧ (pendingReader s).text.pendingRead ≠ none)
      ∧ ((given s (readText 3 0)).Commanded 24 (readText 3 0) ∧ s.text.find? 3 = none)
      ∧ ((given (up .camped) (readText 0 0)).Commanded 24 (readText 0 0) ∧ (up .camped).text.unread = none)
      ∧ ((given s (readText 2 65535)).Commanded 24 (readText 2 65535) ∧ s.text.find? 2 = some (stored 2)
        ∧ s.text.unread.bind s.text.find? = some (stored 1)) := by decide +kernel

theorem meets_StoredTextsAreRead_onward :
    let s := storing (up .camped)
    let r := withText s fun x => { x with readCursor := some (1, 48) }
    ((given s (parcelOf 25 [9])).Commanded 25 (parcelOf 25 [9]) ∧ s.text.readCursor = none
        ∧ r.text.readCursor = some (1, 48) ∧ r.text.find? 1 = some (stored 1))
      ∧ ((given s (releaseText 3)).Commanded 26 (releaseText 3) ∧ (given s (releaseText 2)).Commanded 26 (releaseText 2)
        ∧ (given s (releaseText 1)).Commanded 26 (releaseText 1) ∧ s.text.store = stored 1 :: [stored 2]
        ∧ s.text.exchange ∉ [.owed, .due])
      ∧ (given s (parcelOf 27 [9])).Commanded 27 (parcelOf 27 [9]) := by decide +kernel

/-- A release in a switch that makes STORE-AVAILABLE due, with the held uplink list full or with room for one more (R139, R195). -/
def releasing (n : Nat) : State :=
  let s := storing (up .switching)
  { s with
    ho := { Handover.reset with switch := some (aSwitch .switch), uplink := List.replicate n ⟨.text, 59, [2]⟩ }
    text := { s.text with exchange := .owed, capacityOwed := true } }

theorem meets_StoredTextsAreRead_released :
    (∀ n ∈ [7, 8], (given (releasing n) (releaseText 1)).Commanded 26 (releaseText 1)
        ∧ (releasing n).text.store = stored 1 :: [stored 2] ∧ (releasing n).inSwitch = true
        ∧ (releasing n).ho.uplink.length = n ∧ ((releasing n).text.released (stored 1)).availDue = true)
      ∧ ∀ n ∈ [7, 8], (did .releaseText (given (releasing n) (releaseText 1))).text.store = [stored 2]
        ∧ (did .releaseText (given (releasing n) (releaseText 1))).text.exchange = .awaiting
        ∧ (did .releaseText (given (releasing n) (releaseText 1))).ho.uplink.length = 8 := by decide +kernel

/-- Segment i of n of text reference 4 from 1, with the body A, or with a length byte of 41. -/
def segment (n i : Nat) : RxRecord :=
  parcelOf 48 ([1, 31] ++ List.replicate 9 0 ++ [4, n, i, 0, 0, 0, 0, 0, 0, 1, 65])
def segmentTooLong : RxRecord :=
  parcelOf 48 ([1, 31] ++ List.replicate 9 0 ++ [4, 1, 1, 0, 0, 0, 0, 0, 0, 41] ++ List.replicate 41 65)

def anAssembly : Assembly := ⟨[1], 4, 2, 900, [0, 0, 0, 0, 0, 0], [⟨1, [65]⟩]⟩
def assembling (s : State) : State := withText s fun x => { x with assemblies := [anAssembly] }

/-- A store with no room: 4,096 bytes used. -/
def fullStore (e : Exchange) : State :=
  withText (served .linked) fun x =>
    { x with store := [{ stored 1 with body := List.replicate 4072 65 }], exchange := e, capacityOwed := e != .none
             ackWait := .running 2000 }

def retrying (st : ServiceState) : State :=
  withText (up st) fun x => { x with exchange := .retry, capacityOwed := true, retryTick := some 2000 }

theorem meets_SegmentsAreAssembled :
    ((given (up .camped) (segment 1 1)).Receives 48 (segment 1 1) ∧ (up .camped).connected = false)
      ∧ ((given (up .linked) segmentTooLong).Receives 48 segmentTooLong ∧ segmentBad segmentTooLong.payload = true
        ∧ (up .linked).connected = true ∧ (up .linked).noRoom 1 = false)
      ∧ ((given (assembling (up .linked)) (segment 2 1)).Receives 48 (segment 2 1) ∧ segmentBad (segment 2 1).payload = false
        ∧ (assembling (up .linked)).text.assemblies.find? (·.hasKey (segment 2 1).payload) = some anAssembly
        ∧ anAssembly.pieces.any (·.index == u8 (segment 2 1).payload 14) = true)
      ∧ ((fullStore .awaiting).text.room < 1 + 24 ∧ (fullStore .awaiting).text.exchange = .awaiting)
      ∧ ((up .linked).text.room = 4096 ∧ 1 < u8 (segment 8 8).payload 13 ∧ segmentBad (segment 8 8).payload = false
        ∧ (given (up .linked) (segment 8 8)).Receives 48 (segment 8 8) ∧ u8 (segment 1 1).payload 13 = 1)
      ∧ ((assembling (up .camped)).Ready ∧ (assembling (up .camped)).text.assemblies = anAssembly :: [])
      ∧ ((retrying .linked).Ready ∧ (retrying .linked).text.availDue = true ∧ (retrying .scanning).svc.state = .scanning)
      ∧ (given (fullStore .awaiting) (parcelOf 52 [])).Receives 52 (parcelOf 52 [])
        ∧ (fullStore .awaiting).text.refusedSince = false ∧ (fullStore .awaiting).text.ackWait = .running 2000 := by
  decide +kernel

/-- An assembly that lacks a piece, and six open assemblies. -/
def lacking (total : Nat) (s : State) : State := withText s fun x => { x with assemblies := [{ anAssembly with total := total }] }
def sixOpen : State :=
  withText (up .linked) fun x => { x with assemblies := (List.range 6).map fun i => { anAssembly with reference := 10 + i } }

/-- The text unit after segment i of n. -/
def gotSegment (n i : Nat) (s : State) : Text := (did .textSegment (given s (segment n i))).text

theorem meets_SegmentsAreAssembled_pieces :
    let third : Assembly := { anAssembly with total := 3 }
    ((given (lacking 3 (up .linked)) (segment 3 2)).Receives 48 (segment 3 2) ∧ segmentBad (segment 3 2).payload = false
        ∧ (lacking 3 (up .linked)).text.assemblies.find? (·.hasKey (segment 3 2).payload) = some third
        ∧ third.pieces.any (·.index == u8 (segment 3 2).payload 14) = false ∧ third.pieces.length + 1 ≠ third.total
        ∧ (gotSegment 3 2 (lacking 3 (up .linked))).assemblies = [{ third with pieces := [⟨1, [65]⟩, ⟨2, [65]⟩] }])
      ∧ ((given (lacking 2 (up .linked)) (segment 2 2)).Receives 48 (segment 2 2) ∧ anAssembly.pieces.length + 1 = anAssembly.total
        ∧ (lacking 2 (up .linked)).StoreHolds ∧ (gotSegment 2 2 (lacking 2 (up .linked))).assemblies = []
        ∧ (gotSegment 2 2 (lacking 2 (up .linked))).store.map (fun x => (x.number, x.mask, x.complete, x.body))
          = [(1, 3, true, [65, 65])]) := by decide +kernel

theorem meets_SegmentsAreAssembled_room :
    let full := lacking 2 (fullStore .awaiting)
    ((given full (segment 2 2)).Receives 48 (segment 2 2) ∧ full.text.room < 1
        ∧ (gotSegment 2 2 full).refusedSince = true ∧ (gotSegment 2 2 full).assemblies = [anAssembly])
      ∧ (given sixOpen (segment 2 1)).Receives 48 (segment 2 1) ∧ 6 ≤ sixOpen.text.assemblies.length ∧ sixOpen.text.occupied < 32
        ∧ (gotSegment 2 1 sixOpen).assemblies.map (·.reference) = [11, 12, 13, 14, 15, 4]
        ∧ (gotSegment 2 1 sixOpen).store.map (fun x => (x.number, x.mask, x.complete)) = [(1, 1, false)]
        ∧ (given sixOpen (segment 1 1)).Receives 48 (segment 1 1)
        ∧ (gotSegment 1 1 sixOpen).store.map (fun x => (x.number, x.complete)) = [(1, false), (2, true)] := by decide +kernel

/-- A segment refused in each state of the exchange, for an open assembly and for a new one. -/
theorem meets_SegmentsAreAssembled_refused :
    let full (e : Exchange) : State := withSvc (lacking 2 (fullStore e)) fun v => { v with needStore := e.needsStore }
    let seen (s : State) (r : RxRecord) : Exchange × Bool × Bool :=
      let t := (did .textSegment (given s r)).text
      (t.exchange, t.capacityOwed, t.refusedSince)
    (∀ e ∈ [Exchange.none, .owed, .due, .awaiting, .retry], ∀ r ∈ [segment 2 2, segment 3 1],
        (given (full e) r).Receives 48 r ∧ segmentBad r.payload = false ∧ (full e).text.room < 1 ∧ (full e).connected = true
          ∧ (full e).noRoom 1 = false
          ∧ seen (full e) r = (if e = .none ∨ e = .due then .owed else e, true, e == .awaiting)
          ∧ (did .textSegment (given (full e) r)).svc.needStore = (e == .awaiting))
      ∧ (full .none).text.assemblies.find? (·.hasKey (segment 2 2).payload) = some anAssembly
      ∧ (full .none).text.assemblies.find? (·.hasKey (segment 3 1).payload) = none
      ∧ (did .textSegment (given (full .due) (segment 2 2))).svc.traffic.close = some (1000 + 65536) := by decide +kernel

/-- The acknowledgement of a STORE-AVAILABLE with a segment refused since: there is no room, or room in LINKED, SWITCHING,
SCANNING and CAMPED. -/
theorem meets_SegmentsAreAssembled_acknowledged :
    let r := parcelOf 52 []
    let full : State := withText (fullStore .awaiting) fun x => { x with refusedSince := true }
    let roomy (st : ServiceState) (e : Exchange) : State :=
      withText (up st) fun x => { x with exchange := e, capacityOwed := true, refusedSince := true, retryTick := some 2000 }
    let seen (s : State) := ((did .availAck (given s r)).text.exchange, (did .availAck (given s r)).svc.state)
    (∀ s ∈ [full, roomy .linked .awaiting, roomy .switching .awaiting, roomy .scanning .retry, roomy .camped .retry],
        (given s r).Receives 52 r ∧ s.text.capacityOwed = true ∧ s.text.refusedSince = true ∧ s.PlanClear ∧ s.noRoom 1 = false
          ∧ (did .availAck (given s r)).text.refusedSince = false ∧ (did .availAck (given s r)).text.capacityOwed = true
          ∧ (did .availAck (given s r)).text.retryTick = none)
      ∧ full.text.room < 1024 ∧ (roomy .linked .awaiting).text.room = 4096 ∧ (roomy .camped .retry).text.occupied = 0
      ∧ (roomy .linked .awaiting).connected = true ∧ (roomy .scanning .retry).connected = false
      ∧ seen full = (.owed, .linked) ∧ seen (roomy .linked .awaiting) = (.awaiting, .linked)
      ∧ seen (roomy .switching .awaiting) = (.awaiting, .switching) ∧ seen (roomy .scanning .retry) = (.due, .scanning)
      ∧ seen (roomy .camped .retry) = (.due, .connecting)
      ∧ (did .availAck (given (roomy .linked .awaiting) r)).text.ackWait = .running (1000 + 327680) := by decide +kernel

/-! ### … windows at their end -/

/-- An ACTIVE window 1 from 900 to 1400 of a unit, alone in the plan. -/
def ending (kind : WinKind) (owner : UnitId) (s : State) : State :=
  let s := withPlan s [aWindow kind owner 900 1400 .active]
  { s with air := { s.air with idCounter := 1 } }

/-- The state with a request of its unit queued as entry 0, or being sent. -/
def queueing (topic : Nat) (s : State) : State := { s with line := { s.line with txq := [aRequest topic], nextSerial := 1 } }

/-- The windows of the plan: kind, start and end tick, and state. -/
def spans (s : State) : List (WinKind × Tick × Tick × WinState) := s.air.plan.map fun w => (w.kind, w.start, w.stop, w.state)

/-- The plan holds these windows. -/
def holds (s : State) (ws : List (WinKind × Tick × Tick × WinState)) : Bool := spans s == ws

/-- The plan holds one window alone, OFFERED for 99 ticks after tick 1400. -/
def offers (s : State) (kind : WinKind) (stop : Tick) : Bool := holds s [(kind, 1499, stop, .offered)]

/-- A window of each requester at its end, its request in a state: a scan, a camp attempt and an access attempt with a number of
windows not run or attempts failed, and a wait for cell parameters. -/
def scanEnding (q : ReqState) : State :=
  ending .scan .service
    (withSvc (queueing 68 (up .scanning)) fun v => { v with scan := some { Scan.fresh with window := some 1, order := q } })

def campEnding (n : Nat) (q : ReqState) : State :=
  ending .access .service
    (withSvc (queueing 56 camping) fun v => { v with camp := some { aCamp with window := some 1, req := q, notRun := n } })

def linkEnding (n : Nat) (q : ReqState) : State :=
  ending .access .service
    (withSvc (queueing 57 (connecting n)) fun v => { v with conn := { v.conn with window := some 1, req := q } })

def infoEnding (q : ReqState) : State :=
  let s := queueing 67 (served .camped)
  ending .info .paging { s with pag := { s.pag with info := some ⟨some 1, q, none⟩ } }

/-- The state after the end of window 1. -/
def ended (s : State) : State := did (.windowEnd 1) s

theorem meets_ActiveWindowEnds_requests :
    ∀ q ∈ [ReqState.sent, .unbuilt, .offered 0],
      ∀ s ∈ [scanEnding q, campEnding 1 q, campEnding 2 q, linkEnding 1 q, linkEnding 2 q, infoEnding q],
        s.Ready ∧ s.windowIn 1 .active = s.air.plan.head? ∧ s.air.plan.length = 1 ∧ s.air.peers = [] ∧ s.line.Distinct
          ∧ (s.reach 1400).now = 1400 := by decide +kernel

theorem meets_ActiveWindowEnds_requests_sent :
    (ended (scanEnding .sent)).svc.scan.bind (·.deadline) = some 17784
      ∧ (ended (campEnding 1 .sent)).svc.camp.bind (·.deadline) = some 165240
      ∧ (ended (linkEnding 1 .sent)).svc.conn.deadline = some 165240
      ∧ (ended (infoEnding .sent)).pag.info = some ⟨none, .sent, some 4677⟩ := by decide +kernel

theorem meets_ActiveWindowEnds_requests_again :
    ∀ q ∈ [ReqState.unbuilt, .offered 0],
      (offers (ended (scanEnding q)) .scan 17883 = true ∧ offers (ended (campEnding 1 q)) .access 4776 = true
          ∧ offers (ended (linkEnding 1 q)) .access 2810 = true ∧ offers (ended (infoEnding q)) .info 2154 = true)
        ∧ ((ended (campEnding 1 q)).svc.camp.map (·.notRun) = some 2 ∧ (ended (linkEnding 1 q)).svc.conn.retries = 2)
        ∧ ((ended (campEnding 2 q)).svc.state = .scanning
          ∧ holds (ended (campEnding 2 q)) [(.scan, 132472, 148856, .planned)] = true)
        ∧ (ended (linkEnding 2 q)).svc.state = .camped ∧ (ended (linkEnding 2 q)).svc.needPage = none
        ∧ ∀ s ∈ [scanEnding q, campEnding 1 q, campEnding 2 q, linkEnding 1 q, linkEnding 2 q, infoEnding q],
          q = .unbuilt ∨ (ended s).line.txq.all (·.serial != 0) = true := by decide +kernel

/-- The SWITCH window of a phase, its request in a state, and its latest start at the last tick for a new window or one tick before. -/
def switchEnding (p : SwitchPhase) (q : ReqState) (past : Bool) : State :=
  let s := ending .switch .handover (holdingTimers p)
  { s with
    ho := { s.ho with switch := some { aSwitch p with window := some 1, req := q, latest := if past then 1498 else 1499 } }
    svc := { s.svc with reported := some .linked } }

theorem meets_ActiveWindowEnds_switch :
    ∀ p ∈ [SwitchPhase.switch, .return_], ∀ q ∈ [ReqState.sent, .unbuilt, .offered 0], ∀ b ∈ [true, false],
      let s := switchEnding p q b
      let w := aWindow .switch .handover 900 1400 .active
      s.Ready ∧ s.windowIn 1 .active = some w ∧ s.PlanIs w ∧ s.line.isBeingSent 0 = false ∧ s.svc.traffic.close = none
        ∧ s.svc.needStore = s.text.exchange.needsStore := by decide +kernel

theorem meets_ActiveWindowEnds_switch_sent :
    let s := ended (switchEnding .switch .sent false)
    (s.svc.state = .returning ∧ offers s .switch 17883 = true ∧ (s.cell? newKey).map (·.penaltyUntil) = some (some 984440)
        ∧ s.ho.switch.map (fun c => (c.phase, c.cause, c.latest)) = some (.return_, some .noResult, 34168))
      ∧ ∀ t ∈ [ended (switchEnding .return_ .sent false), ended (switchEnding .return_ .unbuilt true)],
        t.svc.state = .scanning ∧ offers t .scan 17883 = true ∧ t.calls.table = [] ∧ t.calls.timersHeld = false
          ∧ t.text.timersHeld = false ∧ t.ho = Handover.reset := by decide +kernel

theorem meets_ActiveWindowEnds_switch_again :
    let s := ended (switchEnding .switch .unbuilt true)
    let busy := sendingRequest 64 (switchEnding .switch (.offered 0) false)
    (offers (ended (switchEnding .switch .unbuilt false)) .switch 3137 = true
        ∧ offers (ended (switchEnding .return_ .unbuilt false)) .switch 17883 = true)
      ∧ (s.svc.state = .linked ∧ offers s .traffic 17883 = true ∧ s.svc.traffic.since = some 1400
        ∧ s.calls.table.map (·.timer) = [.running 1900] ∧ (s.line.txq.filter (·.serial < 2)).map (·.topic) = [59, 60])
      ∧ busy.Ready ∧ busy.windowIn 1 .active = busy.air.plan.head? ∧ busy.line.isBeingSent 0 = true
        ∧ (ended busy).ho.switch.map (fun c => (c.window, c.ended)) = some (none, true)
        ∧ (ended busy).line.txq.map (·.removal) = [true] := by decide +kernel

theorem meets_ActiveWindowEnds_traffic :
    let w := aWindow .traffic .service 900 1400 .active
    let v : Window := { aWindow .traffic .service 1400 17784 .standing with id := 2 }
    let one := ending .traffic .service (served .linked)
    let two := withPlan one [w, v]
    let away := ending .traffic .service (up .switching)
    (one.Ready ∧ one.PlanIs w ∧ one.windowIn 1 .active = some w ∧ (ended one).svc.traffic.since = some 1400
        ∧ offers (ended one) .traffic 17883 = true)
      ∧ (two.Ready ∧ two.windowIn 1 .active = some w ∧ two.air.plan = [w, v] ∧ (ended two).air.plan = [v]
        ∧ (ended two).svc.traffic.since = some 1400)
      ∧ away.Ready ∧ away.windowIn 1 .active = some w ∧ away.svc.state ≠ .linked ∧ (ended away).air.plan = [] := by
  decide +kernel

/-! ### … entries whose removal was asked for -/

/-- An attempt under way at an entry whose removal was asked for. -/
def unwanted (e : TxEntry) (s : State) : State := sending s { e with removal := true }

/-- The CLAIM of a MEASURE and of a WATCH window, one that owes a WITHDRAW, a HANDOVER-REPORT, a SWITCH-REQ or RETURN-REQ whose
window has ended, and an answer. -/
def unwantedMeasure : State :=
  unwanted (aClaim .measure 2000 2049)
    (inRound (withPlan (up .linked) [aWindow .measure .paging 2000 2049 .offered]) fun _ => aRound .unbuilt)

def unwantedWatch : State := unwanted (aClaim .watch 2000 2328) (watching .offered .waiting)

def unwantedOwing : State :=
  unwanted (aClaim .measure 2000 2049) { up .camped with air := { (up .camped).air with owed := [⟨0, 1, 4⟩] } }

def unwantedReport : State := unwanted (aRequest 63) { up .linked with ho := { Handover.reset with report := some 0 } }

def unwantedTurn (p : SwitchPhase) : State :=
  unwanted (aRequest p.topic)
    { switching p with ho := { (switching p).ho with switch := some { aSwitch p with req := .offered 0, ended := true } } }

/-- MUTED. -/
def muted (s : State) : State := { s with line := { s.line with sendTally := 128, state := .muted } }

/-- A form fault, arbitration lost at the tag's last bit, and an echo fault of a MUTED station. -/
def endsOfAttempts : List Instr := [.formFault .checkDelimiter, .arbitrationLost 13, .echoFault false]

theorem meets_SenderFaultsRaiseTheSendTally_removal :
    ∀ s ∈ [unwantedMeasure, unwantedWatch, unwantedOwing, unwantedReport, unwantedTurn .switch, unwantedTurn .return_,
        unwanted anEntry (up .camped)],
      (muted s).OnLine ∧ (∀ f ∈ s.line.held, f.serial ≠ 0) ∧ 0 < s.line.nextSerial
        ∧ (s.line.entry? 0).map (fun e => (e.removal, (s.line.tag e).testBit 0)) = some (true, true)
        ∧ ∀ c ∈ endsOfAttempts, (did c (muted s)).line.txq.all (·.serial != 0) = true := by decide +kernel

/-- The windows lapse, nothing is owed, the report is no longer queued, and the SWITCH windows are asked for again. -/
theorem meets_SendersWithoutARise_removal :
    ∀ c ∈ endsOfAttempts,
      ((did c (muted unwantedMeasure)).meas.rounds = [] ∧ (did c (muted unwantedMeasure)).air.plan = [])
        ∧ ((did c (muted unwantedWatch)).air.plan = [] ∧ (did c (muted unwantedWatch)).pag.missReason = some .lapsed)
        ∧ ((did c (muted unwantedOwing)).air.owed = [] ∧ (did c (muted unwantedReport)).ho.report = none)
        ∧ holds (did c (muted (unwantedTurn .switch))) [(.switch, 1099, 2737, .offered)] = true
        ∧ holds (did c (muted (unwantedTurn .return_))) [(.switch, 1099, 17483, .offered)] = true := by decide +kernel

/-! ### … windows that give way -/

/-- The claim 1490 to 1790 against a watch not yet sent out, its CLAIM queued or being sent. -/
theorem meets_PeerClaimDisplacesAWatch_unsent :
    let w (st : WinState) := aWindow .watch .paging 1700 2028 st
    let s (st : WinState) : State := given (withPlan (watching st .waiting) [w st]) (peerClaim 300)
    let e := aClaim .watch 1700 2028
    let queued : State := { s .offered with line := { (s .offered).line with txq := [e], nextSerial := 1 } }
    (∀ t ∈ [s .planned, queued, sending (s .offered) e],
        t.Receives 1 (peerClaim 300) ∧ t.air.plan.map (·.id) = [1] ∧ t.line.Distinct
          ∧ t.pag.cycles.find? (·.watch == some 1) = some (aCycle .waiting)
          ∧ (did .claim t).air.plan = [] ∧ (did .claim t).pag.missReason = some .peer)
      ∧ (did .claim (s .planned)).line.txq = [] ∧ (did .claim queued).line.txq = []
        ∧ (did .claim (sending (s .offered) e)).air.owed = [⟨0, 1, 3⟩] := by decide +kernel

/-- A claim of class 0 from 1490 to 1790 against an ACTIVE TRAFFIC window of 900 to 20000: cut before its start and at it, with the
next chunk requested at once where the start is no later than now + 8192. -/
theorem meets_PeerClaimDisplacesAWatch_traffic :
    let r : RxRecord := { peerClaim 300 with cls := 0 }
    let far : RxRecord := { parcelOf 1 [7, 2, 0x23, 0xDF, 1, 0] with cls := 0, source := 4 }
    let w := aWindow .traffic .service 900 20000 .active
    let s (now : Tick) (r : RxRecord) : State :=
      let s := given (withPlan (served .linked) [w]) r
      { s with air := { s.air with now := now, idCounter := 1 } }
    (∀ x ∈ [(s 1000 r, r), (s 1490 r, r), (s 1980 far, far), (s 1981 far, far)], x.1.Receives 1 x.2 ∧ x.1.PlanIs w ∧ x.1.NoWithdraw
        ∧ outranks x.2.cls x.2.source w.cls x.1.line.station = true
        ∧ overlap (claimOf x.2).start (claimOf x.2).stop w.start w.stop = true)
      ∧ holds (did .claim (s 1000 r)) [(.traffic, 900, 1490, .active), (.traffic, 1790, 18174, .offered)] = true
      ∧ (holds (did .claim (s 1490 r)) [(.traffic, 1790, 18174, .offered)] = true
        ∧ (did .claim (s 1490 r)).svc.traffic.since = some 1490)
      ∧ ((claimOf far).start = 10173 ∧ later (claimOf far).start (after (1980 : Tick) 8192) = true
        ∧ holds (did .claim (s 1980 far)) [(.traffic, 900, 10173, .active)] = true
        ∧ holds (did .claim (s 1981 far)) [(.traffic, 900, 10173, .active), (.traffic, 10429, 26813, .offered)] = true) := by decide +kernel

/-- A claim that arrived at 990, taken on the end tick 990 of an ACTIVE watch and after it, with start offset 0 and 500. -/
theorem meets_PeerClaimDisplacesAWatch_endTick :
    let r (offset : Nat) : RxRecord := { parcelOf 1 [7, 2, offset / 256, offset % 256, 1, 44] with cls := 2, source := 4 }
    let w := aWindow .watch .paging 662 990 .active
    let s (now offset : Nat) : State :=
      given { watching .active .active with air := { (up .camped).air with plan := [w], now := now } } (r offset)
    ∀ x ∈ [(990, 0), (990, 500), (1000, 0)],
      (s x.1 x.2).Receives 1 (r x.2) ∧ (s x.1 x.2).air.plan = [w] ∧ w.stop = (r x.2).arrival
        ∧ outranks 2 4 w.cls (s x.1 x.2).line.station = true
        ∧ overlap (claimOf (r x.2)).start (claimOf (r x.2)).stop w.start w.stop = false
        ∧ (did .claim (s x.1 x.2)).air.plan = [] ∧ (did .claim (s x.1 x.2)).pag.missReason = some .peer
        ∧ (did .claim (s x.1 x.2)).line.txq.map (fun e => (e.topic, e.payload)) = [(2, [255, 1, 0, 0])] := by decide +kernel

/-- The same of an ACTIVE TRAFFIC window: the next chunk is placed behind the claim, or before one that starts far later. -/
theorem meets_PeerClaimDisplacesAWatch_endTick_traffic :
    let r (offset : Nat) : RxRecord := { parcelOf 1 [7, 2, offset / 256, offset % 256, 1, 44] with cls := 0, source := 4 }
    let w := aWindow .traffic .service 900 990 .active
    let s (offset : Nat) : State :=
      let s := given (withPlan (served .linked) [w]) (r offset)
      { s with air := { s.air with now := 990, idCounter := 1 } }
    (∀ x ∈ [0, 500, 60000], (s x).Receives 1 (r x) ∧ (s x).PlanIs w ∧ outranks 0 4 w.cls (s x).line.station = true)
      ∧ holds (did .claim (s 0)) [(.traffic, 1290, 17674, .offered)] = true
      ∧ holds (did .claim (s 500)) [(.traffic, 1790, 18174, .offered)] = true
      ∧ holds (did .claim (s 60000)) [(.traffic, 1089, 17473, .offered)] = true
      ∧ (did .claim (s 0)).svc.traffic.since = some 990 := by decide +kernel

/-- A claim that does not outrank the ACTIVE window it arrives at the end of leaves it in the plan. -/
theorem test_peerClaim_endTick_below :
    let r : RxRecord := { peerClaim 300 with source := 9, cls := 3 }
    let w := aWindow .watch .paging 662 990 .active
    let s := given { watching .active .active with air := { (up .camped).air with plan := [w], now := 990 } } r
    s.Receives 1 r ∧ (did .claim s).air.plan = [w] ∧ (did .claim s).air.peers = [claimOf r] := by decide +kernel

/-- With every condition of R153 met, a period of SLOWCLK brings DOZE_ENTRY only where the line is idle in it. -/
theorem test_dozeEntry_wants_an_idle_line :
    (up .camped).mayDoze = true ∧ (up .camped).powerDue true = [.dozeEntry] ∧ (up .camped).powerDue false = [] := by
  decide +kernel

/-- A HANDOVER-ORDER of 100 frames at tick 1000 in LINKED with these windows. -/
def ordering (ws : List Window) : State :=
  let s := given (withPlan (served .linked) ws) (parcelOf 50 [6, 81, 255, 100])
  { s with air := { s.air with idCounter := 8 } }

/-- Eight STANDING TRAFFIC windows, and an ACTIVE one. -/
def eightStanding : List Window := (List.range 8).map fun i =>
  { aWindow .traffic .service (40000 + 1000 * BitVec.ofNat 32 i) (40500 + 1000 * BitVec.ofNat 32 i) .standing with id := i + 1 }

def chunkUntil (stop : Tick) : Window := aWindow .traffic .service 900 stop .active

def withdrawals (s : State) : List (Nat × List Byte × Option TxSpan) :=
  (s.line.txq.filter (·.topic == 2)).map fun e => (e.cls, e.payload, e.span)

/-- An ACTIVE TRAFFIC window that reaches into the SWITCH window from 1099 or ends at it, and eight TRAFFIC windows. -/
theorem meets_ReportsAndOrders_plan :
    let t (ws : List Window) := did .handoverOrder (ordering ws)
    (∀ ws ∈ [[chunkUntil 1100], [chunkUntil 1099], eightStanding],
        (ordering ws).Receives 50 (parcelOf 50 [6, 81, 255, 100]) ∧ (ordering ws).NoWithdraw ∧ (ordering ws).air.peers = []
          ∧ (ordering ws).serving? = some (aCell .serving) ∧ (t ws).svc.state = .switching)
      ∧ (holds (t [chunkUntil 1100]) [(.traffic, 900, 1099, .active), (.switch, 1099, 33867, .offered)] = true
        ∧ withdrawals (t [chunkUntil 1100]) = [(1, [255, 1, 0, 0], some (.withdraw (some 1099)))])
      ∧ (holds (t [chunkUntil 1099]) [(.traffic, 900, 1099, .active), (.switch, 1099, 33867, .offered)] = true
        ∧ withdrawals (t [chunkUntil 1099]) = [])
      ∧ (eightStanding.map (·.id)).Nodup ∧ eightStanding.all (fun v => !overlap 1099 33867 v.start v.stop) = true
        ∧ (t eightStanding).air.plan.map (·.id) = [9, 1, 2, 3, 4, 5, 6, 7]
        ∧ withdrawals (t eightStanding) = [(1, [255, 8, 0, 0], some (.withdraw none))] := by decide +kernel

/-- The own identity paged in the ACTIVE watch of 900 to 1228 with a MEASURE window OFFERED, without and with the claim of a
lower station of class 2 from 1200 to 1500: the ACCESS window cuts the watch, or stands behind the claim and the watch is released. -/
theorem meets_WatchesAreAnsweredOrMissed_plan :
    let w := aWindow .watch .paging 900 1228 .active
    let v : Window := { aWindow .measure .paging 1228 1277 .offered with id := 2 }
    let p : Claim := ⟨1, 7, 2, 2, 1200, 1500⟩
    let s (ps : List Claim) : State :=
      let s := given (inRound (withPlan (watching .active .active) [w, v]) fun _ => { aRound .unbuilt with id := 2 }) (paged 0)
      { s with
        air := { s.air with peers := ps, idCounter := 2 }
        line := { s.line with txq := [{ aClaim .measure 1228 1277 with payload := [255, 2, 6, 0, 0, 0, 0] }], nextSerial := 1 } }
    let t (ps : List Claim) := did .pageResult (s ps)
    (∀ ps ∈ [[], [p]], (s ps).Receives 44 (paged 0) ∧ (s ps).air.plan = [w, v] ∧ (s ps).NoWithdraw ∧ (s ps).line.Distinct
        ∧ (s ps).pag.info = none ∧ (s ps).svc.state = .camped ∧ (s ps).svc.needPage = none
        ∧ (s ps).pag.cycles = [aCycle .active] ∧ (aCycle .active).watch = some (u8 (paged 0).payload 1)
        ∧ (t ps).svc.state = .connecting ∧ (t ps).svc.needPage = some .call ∧ (t ps).pag.cycles = []
        ∧ ((t ps).line.txq.filter (·.topic == 1)).map (·.cls) = [2])
      ∧ (outranks p.cls p.station WinKind.access.cls (s [p]).line.station = true
        ∧ overlap (after (1000 : Tick) 99) (after (after (1000 : Tick) 99) 1311) p.start p.stop = true)
      ∧ (withdrawals (t [])).map (fun x => (x.2.1, x.2.2))
          = [([255, 1, 0, 0], some (.withdraw (some 1099))), ([255, 1, 0, 0], some (.withdraw none))]
        ∧ withdrawals (t [p]) = [(3, [255, 1, 0, 0], some (.withdraw none))]
      ∧ holds (t []) [(.access, 1099, 2410, .offered)] = true ∧ holds (t [p]) [(.access, 1500, 2811, .offered)] = true := by decide +kernel

/-! ### … misses -/

/-- A LISTED cell at 2 misses, a FOUND one at 2 or 3 and a BARRED one, all ordered and none reported, and the serving cell. -/
def missing (st : ServiceState) (n : Nat) : State :=
  let s := withCells (up st)
    [aCell .serving, { aCell .listed with key := newKey, misses := n }, { aCell .found with key := ⟨102, 0⟩, misses := n },
      { aCell .barred with key := ⟨103, 0⟩, misses := n }]
  given
    { (inRound s fun q => { q with outcome := some .fullTime, order := some [theKey, newKey, ⟨102, 0⟩, ⟨103, 0⟩] }) with
      ho := { Handover.reset with reported := if st = .linked then [⟨102, 0⟩] else [] } }
    lastReport

theorem meets_MeasureReportsAreUsed_misses :
    let q : Round := { aRound .sent with outcome := some .fullTime, order := some [theKey, newKey, ⟨102, 0⟩, ⟨103, 0⟩] }
    let cells (st : ServiceState) (n : Nat) :=
      (did .measureReport (missing st n)).meas.cells.map fun c => (c.key.channel, c.misses, c.level.isSome)
    (∀ st ∈ [ServiceState.linked, .camped], ∀ n ∈ [2, 3],
        (missing st n).LastReport lastReport q ∧ (missing st n).CellsHold ∧ (q.order.getD []).Nodup
          ∧ (did .measureReport (missing st n)).meas.cells.map (·.key) = ((missing st n).afterMisses q).map (·.key))
      ∧ (∀ st ∈ [ServiceState.linked, .camped],
        cells st 2 = [(100, 0, true), (101, 3, true), (102, 3, true), (103, 2, true)]
          ∧ cells st 3 = [(100, 0, true), (101, 0, false), (103, 3, true)])
      ∧ (did .measureReport (missing .linked 2)).ho.reported = [⟨102, 0⟩]
        ∧ (did .measureReport (missing .linked 3)).ho.reported = []
      ∧ (missing .camped 3).svc.scan = none ∧ (missing .camped 3).ho.reported = [] ∧ (missing .camped 3).servingTest = true
        ∧ (missing .camped 3).svc.campTick = none := by decide +kernel

/-! ### … further clauses: cells, windows and the plan -/

/-- At tick 530000 in CAMPED a cycle whose watch has begun is kept, and one WAITING, its watch OFFERED and its MEASURE window STANDING. -/
def replanning (a : Option Anchor) (kept : Bool) : State :=
  let c : Cycle := { aCycle .waiting with frame := 1151, start := 549500, stop := 549800, watch := some 2, measure := some 3 }
  let k : Cycle := { aCycle .answered with start := 529900, stop := 530228 }
  let w (id : Nat) (kind : WinKind) (start stop : Tick) (st : WinState) : Window :=
    { aWindow kind .paging start stop st with id := id, claim := if st == .offered then some 0 else none }
  let s := inRound (withPlan (served .camped)
    ((if kept then [w 1 .watch 529900 530228 .active] else []) ++ [w 2 .watch 549500 549800 .offered, w 3 .measure 549800 549865 .standing]))
    fun _ => { aRound (.offered 1) with id := 3 }
  { given s paramsRecord with
    air := { s.air with anchor := a, now := 530000, idCounter := 3 }
    line := { (given s paramsRecord).line with
      txq := [{ aClaim .watch 549500 549800 with payload := [255, 2, 2, 0, 0, 0, 0] }, { aRequest 66 with serial := 1 }], nextSerial := 2 }
    pag := { s.pag with running := true, cycles := (if kept then [k] else []) ++ [c] } }

theorem meets_CellParamsComeIntoForce_replan :
    ∀ b ∈ [true, false], ∀ a ∈ [none, some anAnchor],
      let s := replanning a b
      let t := did .cellParams s
      s.Receives 40 paramsRecord ∧ s.isServingKey (keyAt paramsRecord.payload 1) = true
        ∧ (paramsOf paramsRecord.payload).cycle ≠ s.meas.params.cycle ∧ (s.air.plan.map (·.id)).Nodup ∧ s.ClaimsPast
        ∧ s.line.Distinct ∧ withdrawals t = [(4, [255, 3, 0, 0], some (.withdraw none))]
        ∧ t.line.txq.all (1 < ·.serial) = true ∧ t.pag.planOwed = a.isNone := by decide +kernel

/-- C = 32, G = 1 and s = 0 give paging frame 0: the first from 530228 on is frame 1120, at 500000 + floor((7 + 8192 · 120) / 25). -/
theorem meets_CellParamsComeIntoForce_replanned :
    let t := did .cellParams (replanning none true)
    let u := did .cellParams (replanning (some anAnchor) true)
    (holds t [(.watch, 529900, 530228, .active)] = true ∧ t.meas.rounds = [] ∧ t.pag.cycles.map (·.frame) = [69])
      ∧ anAnchor.nextFrame 32 0 530228 = (96, 539321, 539649)
        ∧ holds u [(.watch, 529900, 530228, .active), (.watch, 539321, 539649, .offered), (.measure, 539649, 539714, .offered)] = true
        ∧ u.pag.cycles.map (fun c => (c.frame, c.status)) = [(69, .answered), (96, .waiting)]
        ∧ u.meas.rounds.map (·.capacity) = [2] := by decide +kernel

/-- A TRAFFIC window and a watch at their start. -/
theorem meets_StandingWindowBecomesActive_own :
    let v := aWindow .traffic .service 2000 3311 .standing
    let w := aWindow .watch .paging 2000 2328 .standing
    let s := standingFor .traffic .service
      (withSvc (up .linked) fun x => { x with traffic := { x.traffic with accrued := 7, since := some 900, gapFlag := true } })
    let t := watching .standing .waiting
    (s.Ready ∧ s.windowIn 1 .standing = some v
        ∧ (did (.windowStart 1) s).svc = { s.svc with traffic := { s.svc.traffic with accrued := 0, since := none, gapFlag := false } })
      ∧ t.Ready ∧ t.windowIn 1 .standing = some w ∧ t.pag.running = true
        ∧ t.pag.cycles.find? (·.watch == some 1) = some (aCycle .waiting)
        ∧ (did (.windowStart 1) t).pag = { t.pag with cycles := [aCycle .active] } := by decide +kernel

/-- The CLAIM of a window that has left the plan is sent: its WITHDRAW is owed, or not. -/
theorem meets_SentClaimMakesItsWindowStand_gone :
    let e := aClaim .measure 2000 2049
    let s (os : List Owed) : State := sending { up .camped with air := { (up .camped).air with owed := os } } { e with removal := true }
    (∀ os ∈ [[], [⟨0, 1, 4⟩], [⟨0, 1, 4⟩, ⟨9, 2, 3⟩]],
        (s os).OnLine ∧ (s os).line.phase = .sending (anAttempt e) ∧ (s os).line.entry? 0 = some { e with removal := true }
          ∧ (s os).air.plan = [] ∧ (did .parcelSent (s os)).air.owed = os.drop 1
          ∧ (did .parcelSent (s os)).line.txq.all (·.serial != 0) = true)
      ∧ withdrawals (did .parcelSent (s [])) = []
        ∧ withdrawals (did .parcelSent (s [⟨0, 1, 4⟩])) = [(4, [255, 1, 0, 0], some (.withdraw none))] := by decide +kernel

/-- A full table: the serving cell, and fifteen of a role at rising levels, the first without one. -/
def fullTable (st : ServiceState) (role : Role) : State :=
  withCells (up st) (aCell .serving :: (List.range 15).map fun i =>
    { aCell role with key := ⟨200 + i, 0⟩, level := if i = 0 then none else some (-1600 + 16 * i) })

/-- The weakest goes: that of no level; without it, or with its level and last sample those of the next, by the key. -/
theorem meets_CellListSetsTheNeighbours_full :
    let s (role : Role) : State := given
      { fullTable .linked role with ho := { Handover.reset with reported := [⟨200, 0⟩, ⟨201, 0⟩] } } listUnknown
    (∀ role ∈ [Role.found, .listed, .barred],
        (s role).Receives 41 listUnknown ∧ (s role).meas.cells.length = 16 ∧ (s role).cell? ⟨102, 0⟩ = none
          ∧ (s role).isServingKey (keyAt listUnknown.payload 1) = true)
      ∧ (∀ role ∈ [Role.found, .listed],
        (did .cellList (s role)).meas.cells.map (·.key.channel) = 100 :: List.range' 201 14 ++ [102]
          ∧ ((did .cellList (s role)).cell? ⟨102, 0⟩).map (·.role) = some .listed
          ∧ (did .cellList (s role)).ho.reported = [⟨201, 0⟩])
      ∧ (did .cellList (s .barred)).meas.cells.map (·.key) = (s .barred).meas.cells.map (·.key)
        ∧ (did .cellList (s .barred)).ho.reported = [⟨200, 0⟩, ⟨201, 0⟩] := by decide +kernel

/-- A sample of a new key at −93 dBm against a weakest FOUND record without a level, at −93 or above, and none FOUND. -/
theorem meets_MeasureReportsAreUsed_full :
    let s (role : Role) (f : Option Int) : State := inRound
      (withCells (up .linked) ((fullTable .linked role).meas.cells.map fun c => if c.key = ⟨200, 0⟩ then { c with level := f } else
        { c with level := some (-1400) })) id
    let t (role : Role) (f : Option Int) := did .measureReport (given (s role f) (reportUnknown 1))
    (∀ f ∈ [none, some (-1489), some (-1488), some (-1400)],
        (given (s .found f) (reportUnknown 1)).Receives 42 (reportUnknown 1) ∧ (s .found f).meas.cells.length = 16
          ∧ (s .found f).cell? ⟨102, 0⟩ = none ∧ (s .found f).round? 1 = some (aRound .sent)
          ∧ (t .found f).meas.rounds.map (·.reported) = [[⟨102, 0⟩]])
      ∧ (∀ f ∈ [none, some (-1489)], ((t .found f).cell? ⟨200, 0⟩).isSome = false
        ∧ ((t .found f).cell? ⟨102, 0⟩).map (fun c => (c.role, c.level)) = some (.found, some (-1488)))
      ∧ (∀ f ∈ [some (-1488), some (-1400)], (t .found f).meas.cells = (s .found f).meas.cells)
        ∧ (t .listed none).meas.cells = (s .listed none).meas.cells := by decide +kernel

/-- A PAGE-RESULT that names nobody, with the info-change flag, for a watch that is ACTIVE up to a tick, or past it AWAITING. -/
def infoFlag : RxRecord := parcelOf 44 [1, 3, 232, 0, 10, 7, 1, 0]
def infoAsked (stop : Nat) (r : RxRecord) : State :=
  let s := if 1000 < stop then withPlan (watching .active .active) [aWindow .watch .paging 900 (BitVec.ofNat 32 stop) .active]
    else withPlan (watching .active .awaiting) []
  given { s with air := { s.air with idCounter := 1 } } r

theorem meets_WatchesAreAnsweredOrMissed_info :
    let t (n : Nat) := did .pageResult (infoAsked n infoFlag)
    (∀ n ∈ [900, 1099, 1100, 9192, 9193],
        (infoAsked n infoFlag).Receives 44 infoFlag ∧ (u8 infoFlag.payload 7).testBit 0 = true ∧ (infoAsked n infoFlag).air.peers = []
          ∧ (t n).pag.missed = 0 ∧ (t n).pag.info.isSome = (n != 9193))
      ∧ holds (t 900) [(.info, 1099, 1754, .offered)] = true
      ∧ holds (t 1099) [(.watch, 900, 1099, .active), (.info, 1099, 1754, .offered)] = true
      ∧ holds (t 1100) [(.watch, 900, 1100, .active), (.info, 1100, 1755, .offered)] = true
      ∧ holds (t 9192) [(.watch, 900, 9192, .active), (.info, 9192, 9847, .offered)] = true
      ∧ holds (t 9193) [(.watch, 900, 9193, .active)] = true := by decide +kernel

/-- With the own identity named as well, the part is CONNECTING and no INFO window is asked for. -/
theorem meets_WatchesAreAnsweredOrMissed_infoAndPage :
    let r : RxRecord := { paged 0 with payload := (paged 0).payload.set 7 1 }
    (infoAsked 900 r).Receives 44 r ∧ (u8 r.payload 7).testBit 0 = true
      ∧ holds (did .pageResult (infoAsked 900 r)) [(.access, 1099, 2410, .offered)] = true
      ∧ (did .pageResult (infoAsked 900 r)).pag.info = none := by decide +kernel

/-- A STANDING, an ACTIVE, an OFFERED and a PLANNED window, the CLAIM of the OFFERED one queued or being sent, with an ANSWER, a
MEASURE-ORDER, a CALL-SIGNAL and a NOTICE queued and a second ANSWER and CALL-SIGNAL held. -/
def planned (beingSent : Bool) (st : ServiceState) : State :=
  let w (id : Nat) (ws : WinState) : Window :=
    { aWindow .watch .paging (1000 + 1000 * BitVec.ofNat 32 id) (1500 + 1000 * BitVec.ofNat 32 id) ws with
      id := id, claim := if ws == .offered then some 0 else none }
  let e (n : Nat) (o : UnitId) (topic : Nat) : TxEntry := { anEntry with serial := n, owner := o, topic := topic, cls := 4 }
  let s := withPlan (up st) [w 1 .standing, w 2 .active, w 3 .offered, w 4 .planned]
  { s with line := { s.line with
      txq := [{ aClaim .watch 4000 4500 with payload := [255, 3, 2, 0, 0, 0, 0] }, e 1 .command 32, e 2 .command 33, e 3 .measurement 66,
        e 4 .call 60]
      held := [e 5 .command 32, e 6 .call 60], nextSerial := 7
      phase := if beingSent then .sending (anAttempt (aClaim .watch 4000 4500)) else .idle } }

/-- RESTART and SHELVE of it: both windows are withdrawn, the CLAIM goes or owes its WITHDRAW, and what stays of the entries. -/
theorem meets_RestartBeginsAfresh_plan :
    ∀ b ∈ [true, false], ∀ c ∈ [true, false],
      let r := parcelOf (if c then 10 else 11) [9]
      let s := given (planned b .camped) r
      let t := did (if c then .restart else .shelve) s
      s.Commanded r.topic r ∧ s.line.Distinct ∧ s.ClaimsPast ∧ s.ho.report = none
        ∧ withdrawals t = [(3, [255, 1, 0, 0], some (.withdraw none)), (3, [255, 2, 0, 0], some (.withdraw none))]
        ∧ t.air.owed = (if b then [⟨0, 3, 3⟩] else [])
        ∧ ((t.line.txq ++ t.line.held).filter (·.serial < 7)).map (fun e => (e.serial, e.removal))
          = (if b then [(0, true)] else []) ++ [(1, false), (5, false)] ++ (if c then [] else [(2, false)]) := by
  decide +kernel

/-- SEND-GO behind a text that is QUEUED or SENDING: the new text waits. -/
theorem meets_TextsAreComposed_behind :
    ∀ x ∈ [(ServiceState.camped, OutState.queued), (.scanning, .queued), (.linked, .sending), (.switching, .sending)],
      let s := given (outbound (up x.1) [aText x.2, aText .composing]) (parcelOf 22 [9])
      s.Commanded 22 (parcelOf 22 [9]) ∧ s.composing? = some (aText .composing)
        ∧ (did .sendGo s).text.outbound.map (fun o => (o.state, o.reference)) = [(x.2, 4), (.queued, s.text.refCounter)]
        ∧ (did .sendGo s).svc = s.svc ∧ (did .sendGo s).ho = s.ho ∧ (did .sendGo s).air = s.air := by decide +kernel

/-- In MEDIUM with `k` counted changes of tick 900 in the ring and an N_med in force, calm since tick 950 or not. -/
def medium (k nMed : Nat) (calm : Bool) : State :=
  let s := withSvc (served .camped) fun v =>
    { v with ring := List.replicate k ⟨900, none, theKey, true⟩, mobility := .medium, calmSince := if calm then some 950 else none }
  { s with meas := { s.meas with params := { Params.default with nMed := nMed, nHigh := 16 } } }

/-- SHELVE keeps calm-since, on whichever side of the threshold the default N_med = 4 puts the count, and a change that then leaves the
count does not clear it. -/
theorem meets_ShelvingAndWakeHold_calm :
    ∀ b ∈ [true, false], ∀ x ∈ [(3, 2), (3, 5), (5, 6), (5, 5)],
      let s := given (medium x.1 x.2 b) (parcelOf 11 [9])
      let t := did .shelve s
      s.Commanded 11 (parcelOf 11 [9]) ∧ t.svc.state = .shelved ∧ t.meas.params.nMed = 4 ∧ t.svc.calmSince = s.svc.calmSince
        ∧ t.svc.ring = s.svc.ring ∧ t.svc.mobility = .medium
        ∧ (b = true → (did (.mobilityCountExpiry 900) t).svc.calmSince = some 950) := by decide +kernel

/-- A CELL-PARAMS of W = 60, N_med and N_high = 16 tests the calm where N_med changes, and only there. -/
theorem meets_CellParamsComeIntoForce_calm :
    let r (n : Nat) := parcelOf 40 ([6, 64, 5] ++ List.replicate 14 0 ++ [60, n, 16] ++ List.replicate 3 0)
    let calm (k old new : Nat) (b : Bool) := (did .cellParams (given (medium k old b) (r new))).svc.calmSince
    (∀ b ∈ [true, false], ∀ n ∈ [3, 4], (given (medium 3 3 b) (r n)).Receives 40 (r n)
        ∧ (given (medium 3 3 b) (r n)).isServingKey (keyAt (r n).payload 1) = true ∧ (paramsOf (r n).payload).nMed = n)
      ∧ calm 3 3 4 false = some 1000 ∧ calm 3 4 3 true = none ∧ calm 3 5 4 true = some 950
      ∧ calm 3 4 4 false = none ∧ calm 3 3 3 true = some 950 := by decide +kernel

/-- The calm begins with the count below N_med once changes have left it, and is not cleared with the count at N_med. -/
theorem meets_MobilityFallsAfterCalm_begin :
    let s (k : Nat) (b : Bool) : State := withSvc (medium k 2 b) fun v => { v with ring := v.ring ++ [⟨800, none, theKey, true⟩] }
    (∀ k ∈ [1, 2], ∀ b ∈ [true, false], (s k b).Ready
        ∧ ((s k b).svc.ring.find? fun d => d.counted && d.tick == 800) = some ⟨800, none, theKey, true⟩)
      ∧ (did (.mobilityCountExpiry 800) (s 1 false)).svc.calmSince = some 1966880
      ∧ (did (.mobilityCountExpiry 800) (s 1 true)).svc.calmSince = some 950
      ∧ (did (.mobilityCountExpiry 800) (s 2 false)).svc.calmSince = none
      ∧ (did (.mobilityCountExpiry 800) (s 2 true)).svc.calmSince = some 950 := by decide +kernel

/-! ### … further clauses: calls and texts -/

/-- The state in a switch with `n` entries in the held uplink list. -/
def heldUp (n : Nat) (s : State) : State :=
  { s with
    svc := { s.svc with state := .switching }
    ho := { Handover.reset with switch := some (aSwitch .switch), uplink := List.replicate n ⟨.text, 59, [2]⟩ } }

/-- The CALL-SIGNALs of the queue and of the held uplink list, from their codes on to the cause, and the calls by handle and state. -/
def signals (s : State) : List (List Byte) :=
  (s.line.txq.filter (·.topic == 60)).map (fun e => (e.payload.drop 1).take 4)
    ++ (s.ho.uplink.filter (·.topic == 60)).map fun u => (u.payload.drop 1).take 4
def callsOf (s : State) : List (Nat × CallState) := s.calls.table.map fun c => (c.handle, c.state)

/-- ANSWER of call 2 with HOLD (0) or RELEASE (1) beside call 1. -/
def answering (mode : Nat) (st : CallState) : State :=
  given (withCalls (served .linked) [aCall 1 true st 0, aCall 2 false .offered 0]) (parcelOf 15 [9, 2, mode])

def answer (mode : Nat) : RxRecord := parcelOf 15 [9, 2, mode]

theorem meets_HandsetCommandsMoveCalls_foreground :
    (∀ m ∈ [0, 1], ∀ st ∈ [CallState.connected, .dialing, .ringback], ∀ n ∈ [6, 7, 8],
        (heldUp n (answering m st)).Commanded 15 (answer m) ∧ (answering m st).foreground? = some (aCall 1 true st 0)
          ∧ (answering m st).call? 2 = some (aCall 2 false .offered 0) ∧ (answering m st).stepInFlight = false
          ∧ (answering m st).anyHeld = false ∧ (heldUp n (answering m st)).noRoom 1 = (n == 8)
          ∧ (heldUp n (answering m st)).noRoom 2 = (n != 6))
      ∧ (∀ st ∈ [CallState.dialing, .ringback],
        (answering 0 st).AnswersHost (did .answer (answering 0 st)) (answer 0) .state [])
      ∧ (∀ st ∈ [CallState.dialing, .connected], (heldUp 8 (answering 1 st)).AnswersHost
        (did .answer (heldUp 8 (answering 1 st))) (answer 1) .busy [])
      ∧ (heldUp 8 (answering 0 .connected)).AnswersHost (did .answer (heldUp 8 (answering 0 .connected))) (answer 0) .busy []
      ∧ (heldUp 7 (answering 1 .connected)).AnswersHost (did .answer (heldUp 7 (answering 1 .connected))) (answer 1) .busy [] := by
  decide +kernel

theorem meets_HandsetCommandsMoveCalls_foreground_released :
    (∀ s ∈ [answering 1 .dialing, heldUp 7 (answering 1 .dialing)],
        signals (did .answer s) = [[1, 1, 0, 255]] ∧ callsOf (did .answer s) = [(2, .answering)]
          ∧ (did .answer s).Tells .callCleared [1, 0, 0, 0])
      ∧ ∀ s ∈ [answering 1 .connected, heldUp 6 (answering 1 .connected)],
        signals (did .answer s) = [[2, 0, 0, 0], [1, 1, 0, 255]]
          ∧ callsOf (did .answer s) = [(1, .clearing), (2, .answering)] := by decide +kernel

/-- HANGUP of call 1, HOLDING for the deferred answer of call 2, with room for both signals or for one. -/
theorem meets_HandsetCommandsMoveCalls_deferred :
    let s := given deferring (forCall 16 1)
    (∀ t ∈ [s, heldUp 6 s], t.Commanded 16 (forCall 16 1) ∧ t.call? 1 = some (aCall 1 true .holding 0) ∧ t.noRoom 2 = false
        ∧ t.calls.deferred = some 2 ∧ signals (did .hangup t) = [[2, 0, 0, 0], [1, 1, 0, 255]]
        ∧ callsOf (did .hangup t) = [(1, .clearing), (2, .answering)] ∧ (did .hangup t).calls.deferred = none)
      ∧ (heldUp 7 s).noRoom 2 = true ∧ (heldUp 7 s).AnswersHost (did .hangup (heldUp 7 s)) (forCall 16 1) .busy [] := by
  decide +kernel

/-- The commands of these tests: RELEASED of the HOLDING call 1 of a deferred answer, of its OFFERED call 2, and HOLD-REJ. -/
def deferredEvent (kind dir : Nat) : State := given deferring (callEvent kind dir 0 17)

theorem meets_CallEventsMoveCalls_deferred_released :
    (∀ t ∈ [deferredEvent 3 0, heldUp 7 (deferredEvent 3 0)],
        t.Receives 47 (callEvent 3 0 0 17) ∧ t.connected = true ∧ t.noRoom 1 = false
          ∧ t.callOf true 0 = some (aCall 1 true .holding 0) ∧ t.call? 2 = some (aCall 2 false .offered 0)
          ∧ signals (did .callEvent t) = [[1, 1, 0, 255]] ∧ callsOf (did .callEvent t) = [(2, .answering)]
          ∧ (did .callEvent t).Tells .callCleared [1, 0, byte (CallCause.network 17).code, 17])
      ∧ (deferredEvent 3 1).Receives 47 (callEvent 3 1 0 17) ∧ callsOf (did .callEvent (deferredEvent 3 1)) = [(1, .holding)]
        ∧ (did .callEvent (deferredEvent 3 1)).calls.deferred = none := by decide +kernel

theorem meets_CallEventsMoveCalls_deferred_lost :
    let t := did .callEvent (heldUp 8 (deferredEvent 3 0))
    let u := did .callEvent (deferredEvent 5 0)
    ((heldUp 8 (deferredEvent 3 0)).noRoom 1 = true ∧ callsOf t = [] ∧ t.calls.deferred = none
        ∧ t.Tells .callCleared [2, 1, byte CallCause.blocked.code, 0])
      ∧ (deferredEvent 5 0).Receives 47 (callEvent 5 0 0 17) ∧ (deferredEvent 5 0).inPair 1 = false
        ∧ callsOf u = [(1, .connected), (2, .offered)] ∧ u.calls.deferred = none
        ∧ u.Tells .callState [2, byte CallState.offered.code, byte CallState.offered.code] := by decide +kernel

/-- A pending read at offset 0, capacity owed in a state of the exchange, and a store of one seen text of `n` body bytes. -/
def awaitingText (n : Nat) (e : Exchange) (s : State) : State :=
  let s := withText s fun x => { x with
    pendingRead := some { source := 1, topic := 24, reference := 8, offset := 0 }
    store := [{ stored 1 with body := List.replicate n 65 }], counter := 1, exchange := e, capacityOwed := true }
  { s with svc := { s.svc with needStore := e.needsStore } }

/-- The test of R194 as a Bool. -/
def availTested (s t : State) (x : Text) (now : Tick) : Bool := decide (s.TestsAvail t x now)

/-- A one-piece text of body A is stored as number 2 for a pending read, in LINKED and in a switch, in every state of the exchange:
with room STORE-AVAILABLE that was OWED or DUE goes out, and with 3124 bytes used OWED stays and DUE falls back to it. -/
theorem meets_SegmentsAreAssembled_pending :
    ∀ e ∈ [Exchange.none, .owed, .due, .awaiting, .retry], ∀ n ∈ [100, 3100],
      ∀ s ∈ [given (awaitingText n e (up .linked)) (segment 1 1), given (heldUp 6 (awaitingText n e (up .linked))) (segment 1 1)],
        let y : StoredText := { stored 2 with body := [65] }
        let t := did .textSegment s
        s.Receives 48 (segment 1 1) ∧ s.connected = true ∧ s.noRoom 2 = false ∧ s.text.ReadyToStore
          ∧ availTested s t (s.text.stores y) s.now = true ∧ t.text.store.map (·.seen) = [false, true] ∧ t.text.pendingRead = none
          ∧ t.text.readCursor = some (2, 1) ∧ s.line.Sends t.line 7 39 ([1, 8] ++ bytes2 2 ++ bytes2 0 ++ [1, 65]) := by
  decide +kernel

/-- The same with the last piece of two, and with the timeout of its assembly. -/
theorem meets_SegmentsAreAssembled_pending_closed :
    ∀ e ∈ [Exchange.none, .owed, .due, .awaiting, .retry], ∀ n ∈ [100, 3100],
      let a := lacking 2 (awaitingText n e (up .linked))
      let s := given a (segment 2 2)
      let y := { anAssembly with pieces := [⟨1, [65]⟩, ⟨2, [65]⟩] }.storedAs 2
      let x := ({ a.text with assemblies := [] } : Text)
      s.Receives 48 (segment 2 2) ∧ s.StoreHolds ∧ s.text.ReadyToStore
        ∧ availTested s (did .textSegment s) (x.stores y) s.now = true ∧ a.Ready ∧ a.text.assemblies = [anAssembly]
        ∧ availTested a (did .assemblyTimeout a) (x.stores (anAssembly.storedAs 2)) (a.reach (after 900 3932160)).now = true := by
  decide +kernel

/-- A piece that leaves its assembly open, the first of several, and one that closes the earliest of six assemblies. -/
theorem meets_SegmentsAreAssembled_exchange :
    ∀ e ∈ [Exchange.none, .owed, .due, .awaiting, .retry], ∀ n ∈ [100, 3100],
      let a := given (lacking 3 (awaitingText n e (up .linked))) (segment 3 2)
      let b := given (awaitingText n e (up .linked)) (segment 3 2)
      let c := given (awaitingText n e sixOpen) (segment 3 2)
      let v := ({ c.text with assemblies := c.text.assemblies.tail } : Text).stores ({ anAssembly with reference := 10 }.storedAs 2)
      let o (first : Tick) (ps : List Piece) : Assembly := { anAssembly with total := 3, first := first, pieces := ps }
      availTested a (did .textSegment a) { a.text with assemblies := [o 900 [⟨1, [65]⟩, ⟨2, [65]⟩]] } a.now = true
        ∧ availTested b (did .textSegment b) { b.text with assemblies := [o 990 [⟨2, [65]⟩]] } b.now = true
        ∧ c.text.ReadyToStore ∧ v.steady = (e != .owed && e != .due || (e == .owed) != (n == 100))
        ∧ (v.steady = true → availTested c (did .textSegment c)
          { v with assemblies := c.text.assemblies.tail ++ [o 990 [⟨2, [65]⟩]] } c.now = true) := by decide +kernel

/-! ### Ill-formed operands -/

/-- One ill-formed command for each check of `Instr.wf`. -/
theorem test_wf_refuses :
    ∀ c ∈ [Instr.sendOpportunity 0 15625 ⟨0, false⟩, .arbitrationLost 14, .formFault (.tail 0), .formFault (.tail 5),
        .formFault (.size 64), .formFault (.size 128), .holdoffAnswer (.gap 0 0), .holdoffAnswer (.gap 3 2),
        .parcelReceived 0 ⟨0, 0, 0, List.replicate 65 0⟩,
        .claimStartRemoval 0, .claimExpiry 16 0, .claimExpiry 0 256, .claimOffer 256, .standDeadline 0, .windowStart 256,
        .windowEnd 0, .roundSilenceDeadline 256, .penaltyExpiry ⟨4096, 0⟩, .penaltyExpiry ⟨0, 512⟩, .barringExpiry ⟨0, 512⟩,
        .chunkRenewal 0, .watchResultDeadline 256, .callTimerExpiry 0, .callTimerExpiry 16, .dominantAfterSpoilMark 0],
      c.wf = false := by decide

theorem test_wf_accepts_the_ends :
    ∀ c ∈ [Instr.sendOpportunity 0 15624 ⟨0, true⟩, .arbitrationLost 13, .formFault (.tail 4), .formFault (.size 127),
        .holdoffAnswer (.gap 2 1), .holdoffAnswer .tail,
        .parcelReceived 0 ⟨7, 127, 15, List.replicate 64 0⟩, .claimExpiry 15 255, .claimOffer 255, .penaltyExpiry ⟨4095, 511⟩,
        .callTimerExpiry 15], c.wf = true := by decide

/-! ### Worked examples of the manual: the line -/

/-- The tags of "three starters in one gap". -/
theorem test_tags : tagOf 3 1 4 = 6164 ∧ tagOf 3 1 5 = 6165 ∧ tagOf 3 42 2 = 6818 := by decide

/-- In the tag of station 4's CLAIM the six 0s of the topic are followed by a recessive stuff bit (R4). -/
theorem test_stuff_bit :
    (wire ⟨3, 1, 4, []⟩).take 16 = [false, false, true, true, false, false, false, false, false, false, true, true, false, true,
      false, false] := by decide

/-- The published check value of the polynomial of R5 with a register of ones, over the text 123456789. -/
theorem test_crc : crc ((List.range' 0x31 9).flatMap (bitsMsb 8)) = 0x29B1 := by decide +kernel

/-- "A sender alone on the line": the first attempt, the sixteenth, one while MUTED, and the one that is echoed; and a station that
a bit fault in its mark makes MUTED, which waits 8 bits more too. -/
def alone (tally : Nat) (st : LineState) : State :=
  { sending (up .camped) anEntry with line := { (sending (up .camped) anEntry).line with sendTally := tally, state := st } }

theorem test_sender_alone :
    let line (t : State) := (t.line.sendTally, t.line.state, t.line.extraWait)
    line (did (.echoFault true) (alone 0 .vocal)) = (6, .vocal, 8) ∧ line (did (.echoFault true) (alone 90 .vocal)) = (96, .muted, 8)
      ∧ line (did (.echoFault false) (alone 96 .muted)) = (96, .muted, 8)
      ∧ line (did .parcelSent (alone 96 .muted)) = (95, .vocal, 0)
      ∧ line (did (.bitFault .mark) (did (.echoFault true) (alone 84 .vocal))) = (96, .muted, 8) := by decide +kernel

/-- "Reception pressure and overrun": a payload of 40 finds 16 bytes free, is dropped and RECEIVE-OVERRUN raised. -/
theorem test_overrun :
    let s : State :=
      { up .camped with line :=
        { (up .camped).line with rxq := List.replicate 13 { parcelOf 48 [] with payload := List.replicate 46 3 } } }
    let t := did (.parcelReceived 1000 ⟨4, 42, 2, List.replicate 40 3⟩) s
    rxUsed t.line.rxq = 624 ∧ t.Notes .receiveOverrun := by decide +kernel

/-- The WITHDRAW of the ACTIVE window cut to end at 307000 has the cut offset 1988 for a tail that ends at 305012. -/
theorem test_cut_offset :
    writtenPayload ⟨0, .airtime, 1, 2, [255, 40, 0, 0], some (.withdraw (some 307000)), false⟩ 305012 = [255, 40, 7, 196] := by
  decide

/-! ### … notices -/

/-- "Coalescing and order", steps 1 to 5, with cells as single bytes. -/
def fiveNotices : State :=
  let handled (s : State) (f : State → State) : State := (f s).tellHost s.cmd
  let s := handled (handled (up .camped) (·.raise .cellChanged [65])) (·.raise .textArrived [12])
  let s := handled (handled s (·.raise .cellChanged [66])) (·.raise .callState [2])
  handled s (·.noticeGone 0 true)

theorem test_notice_order :
    fiveNotices.cmd.notices.map (fun n => (n.kind, n.count, n.detail, n.offered))
        = [(.cellChanged, 1, [66], false), (.textArrived, 1, [12], false), (.callState, 1, [2], true)]
      ∧ fiveNotices.cmd.noticeOut.map (·.kind) = some .callState := by decide +kernel

/-! ### … ticks, frames and windows -/

/-- The example after R47. -/
theorem test_wrap : later 0x10 0xFFFFFF00 = true ∧ elapsed 0x10 0xFFFFFF00 = 272 := by decide

/-- "Frame boundaries from one anchor", and the two watches of "the paging frame and its watch". -/
theorem test_frames :
    ([1, 2, 3, 4, 24, 25].map anAnchor.boundary = [500327, 500655, 500983, 501311, 507864, 508192])
      ∧ anAnchor.nextFrame 128 69 501000 = (69, 530474, 530802)
      ∧ anAnchor.nextFrame 128 69 530475 = (197, 572417, 572745) := by decide +kernel

/-- The paging frame of index 300 with G = 8, C = 128 and s = 5. -/
theorem test_paging_frame :
    let s := up .camped
    State.pagingFrame
      { s with
        cmd := { s.cmd with setup := some { aSetup with index := 300 } }
        meas := { s.meas with params := { Params.default with groups := 8, shift := 5 } } } = 69 := by decide

/-- "An own request displaces the paging windows": the ACCESS window goes behind station 5's claim as id 19, WATCH 17 is
withdrawn and MEASURE 18 yields. -/
def displacing : State :=
  { up .camped with
    air :=
      { (up .camped).air with
        now := 100000
        plan :=
          [{ aWindow .watch .paging 100400 100728 .standing with id := 17, echoed := true },
            { aWindow .measure .paging 100728 100889 .planned with id := 18 }]
        peers := [⟨5, 3, 1, 1, 100000, 100300⟩]
        idCounter := 18 } }

theorem test_displaced :
    let x := displacing.request (.floating .access .service 1311 100000 (some 132768))
    x.2 = .placed 19 100300 101611 ∧ x.1.air.plan.map (fun w => (w.id, w.state)) = [(19, .offered)]
      ∧ x.1.line.txq.map (fun e => (e.cls, e.topic)) = [(2, 1), (3, 2)] := by decide +kernel

/-- "Two VE840s claim the same span": station 4's claim outranks station 5's window, and not the other way round. -/
theorem test_outranks : outranks 3 4 3 5 = true ∧ outranks 3 5 3 4 = false ∧ outranks 2 9 3 0 = true := by decide

/-! ### … measurement, service and handover -/

/-- "Worked cases of the filter". -/
theorem test_filter :
    filterLevel 2 (some (-1600)) (-93) = -1572 ∧ filterLevel 2 (some (-1572)) (-120) = -1659
      ∧ filterLevel 0 (some (-1600)) (-70) = -1408 ∧ filterQuality 2 (some (-160)) (-25) = -170
      ∧ filterQuality 0 (some (-40)) (-48) = -136 ∧ filterLevel 2 none (-105) = -1680 ∧ filterQuality 2 none (-13) = -104
      ∧ (⟨theKey, -150, -60⟩ : Sample).clamped = ⟨theKey, -140, -48⟩ ∧ filterLevel 3 (some (-2200)) (-140) = -2205 := by decide

/-- The example after R78: C = 200, G = 3, s = 70, N_med = 9 and N_high = 5. -/
theorem test_params :
    let p := paramsOf ([3, 0, 0, 0, 200, 3, 70] ++ List.replicate 12 0 ++ [9, 5, 0, 0, 0])
    (p.cycle, p.groups, p.shift, p.nMed, p.nHigh) = (256, 2, 70, 9, 10) := by decide

/-- The switch deadlines after R127. -/
theorem test_switch_ticks : switchTicks 50 = 16384 ∧ switchTicks 5 = 1638 ∧ switchTicks 1 = 1638 := by decide

/-- "A rise and a fall": the five changes from NORMAL. -/
def fiveChanges : State :=
  let a : CellKey := ⟨1, 0⟩
  let b : CellKey := ⟨2, 0⟩
  let c : CellKey := ⟨3, 0⟩
  let d : CellKey := ⟨4, 0⟩
  let at_ (s : State) (t : Tick) : State := { s with air := { s.air with now := t } }
  let s := (at_ (up .camped) 0).enterRing none a 0
  let s := (at_ s 300000).enterRing (some a) b 300000
  let s := (at_ s 600000).enterRing (some b) a 600000
  let s := (at_ s 700000).enterRing (some a) c 700000
  (at_ s 900000).enterRing (some c) d 900000

theorem test_mobility_rise :
    fiveChanges.svc.ring.map (·.counted) = [true, true, false, true, true] ∧ fiveChanges.svc.mobility = .medium
      ∧ (did (.mobilityCountExpiry 0) fiveChanges).svc.calmSince = some 1966080
      ∧ (did (.mobilityCountExpiry 0) fiveChanges).fallTick = some 2949120 := by decide +kernel

/-! ### … calls and texts -/

/-- "A waiting call, a swap and a release": ANSWER with HOLD at 1010000 and HOLD-ACK at 1012000. -/
def waitingCall : State :=
  let s := withCalls (served .linked) [{ aCall 3 true .connected 0 with timer := .off },
    { aCall 4 false .offered 5 with timer := .off, waiting := true }]
  { s with air := { s.air with now := 1010000 } }

theorem test_waiting_call :
    let t := did .answer (given waitingCall (parcelOf 15 [9, 4, 0]))
    let v := did .callEvent (given { t with air := { t.air with now := 1012000 } } (parcelOf 47 [4, 0, 0, 0, 0]))
    t.calls.table.map (fun c => (c.handle, c.state, c.timer)) = [(3, .holding, .running 1173840), (4, .offered, .off)]
      ∧ t.calls.deferred = some 4 ∧ v.calls.deferred = none
      ∧ v.calls.table.map (fun c => (c.handle, c.state, c.timer)) = [(3, .held, .off), (4, .answering, .running 1274144)] := by
  decide +kernel

/-- "A piece that wraps": 15 bytes at offset 80 of 90 go to 80 to 89 and 0 to 4. -/
theorem test_wrapping_piece :
    let b := writePiece (List.replicate 90 none) 80 (List.replicate 15 1)
    (b.take 5 ++ b.drop 80).all (· == some 1) = true ∧ ((b.drop 5).take 75).all (· == none) = true
      ∧ ({ aText .queued with body := b } : OutText).segments = 3 := by decide +kernel

/-- "A three-segment text into a crowded store": the last piece makes text 13 of 144 bytes and 2,056 used, so STORE-HALF is
raised. -/
def crowded : State :=
  withText (up .linked) fun x =>
    { x with
      store := [7, 8, 9, 10, 11].map (fun n => { stored n with body := List.replicate 320 65 })
        ++ [{ stored 12 with body := List.replicate 168 65 }]
      unread := some 12
      counter := 12
      assemblies := [⟨[1], 7, 3, 900, [0, 0, 0, 0, 0, 0], [⟨1, List.replicate 40 65⟩, ⟨3, List.replicate 40 67⟩]⟩] }

theorem test_three_segments :
    let t := did .textSegment (given crowded
      (parcelOf 48 ([1, 31] ++ List.replicate 9 0 ++ [7, 3, 2, 0, 0, 0, 0, 0, 0, 40] ++ List.replicate 40 66)))
    crowded.text.used = 1912 ∧ crowded.text.reserved = 104 ∧ t.text.used = 2056 ∧ t.text.reserved = 0 ∧ t.text.unread = some 12
      ∧ t.Notes .storeHalf ∧ t.text.halfArmed = false
      ∧ t.text.store.getLast?.map (fun r => (r.number, r.len, r.mask, r.body.drop 119)) = some (13, 144, 7, [67]) := by
  decide +kernel

end Sys2Proof.Tests
end

/-! PROOFS. Withdrawals of peer claims (R72) and the re-basing of the frame anchor (R51). -/

namespace Sys2Proof.Machine

/-! ### Handling -/

/-- A short or malformed parcel only has its record completed: its handler is not asked (R207, R208). -/
theorem State.radioParcel_discarded {s : State} {topic : Nat} {r : RxRecord} (h : State → RxRecord → State)
    (hq : s.line.rxq.head? = some r) (ht : r.topic = topic)
    (hd : (isShort r.topic r.payload || isMalformed r.topic r.payload) = true) :
    s.radioParcel topic h = s.settle.completeRecord := by
  obtain ⟨q, hx⟩ := List.head?_eq_some_iff.mp hq
  simp [State.radioParcel, hx, ht, ht ▸ hd]

/-- A handling, in any power state, that comes to a state with no work left over and tells the host nothing answers that state,
with the wake tick set afresh (R154). -/
theorem State.act_untold {s u : State} {f : State → State} (hi : s.inReset = false) (hf : f s = u) (ha : u.agenda = [])
    (hn : u.cmd.notices = s.cmd.notices) (ho : u.cmd.noticeOut = s.cmd.noticeOut) :
    s.act f = .next u.refreshWake := by
  subst hf
  rw [State.act_settled hi ha, State.tellHost_same hn ho]

/-- Coming to a tick changes the airtime scheduler's part alone. -/
theorem State.reach_with_air (s : State) (t : Tick) (a : Airtime) : { s.reach t with air := a } = { s with air := a } := by
  unfold State.reach
  split <;> rfl

/-! ### WITHDRAW -/

theorem exec_withdraw (s : State) : exec .withdraw s = s.act (State.radioParcel 2 State.takeWithdraw) := rfl

/-- The peer claims after a WITHDRAW, with the tests of R72 read as propositions. -/
theorem withdrawClaim_eq (station id cut : Nat) (arrival : Tick) (ds : List Claim) :
    withdrawClaim station id cut arrival ds =
      ds.filterMap fun c =>
        if c.station = station ∧ c.id = id then
          if cut = 0 ∨ notLater (after arrival cut) c.start = true then none
          else if earlier (after arrival cut) c.stop = true then some { c with stop := after arrival cut }
          else some c
        else some c := by
  simp only [withdrawClaim, Bool.and_eq_true, Bool.or_eq_true, beq_iff_eq]

theorem exec_withdraw_short {s : State} {r : RxRecord} (hf : s.Front 2 r) (hs : isShort 2 r.payload = true) :
    exec .withdraw s = .next s.completeRecord := by
  obtain ⟨⟨hi, ha, hp⟩, hq, ht⟩ := hf
  have hrun : s.radioParcel 2 State.takeWithdraw = s.completeRecord := by
    rw [State.radioParcel_discarded _ hq ht (by simp [ht, hs]), State.settle_nil ha]
  exact State.act_quiet hi hrun ha (Paging.isAwake_iff.mpr hp) rfl rfl

theorem exec_withdraw_received {s : State} {r : RxRecord} (hr : s.Receives 2 r) :
    exec .withdraw s = .next (s.takeWithdraw r).completeRecord := by
  obtain ⟨⟨⟨hi, ha, hp⟩, hq, ht⟩, hs, hm⟩ := hr
  have hagenda : (s.takeWithdraw r).agenda = [] := ha
  have hrun : s.radioParcel 2 State.takeWithdraw = (s.takeWithdraw r).completeRecord := by
    rw [State.radioParcel_run _ hq ht hs hm, State.settle_nil hagenda]
  exact State.act_quiet hi hrun hagenda (Paging.isAwake_iff.mpr hp) rfl rfl

/-- Settles O29: a short WITHDRAW is discarded; another leaves the list that R72 makes of the peer claims, and nothing else but
its completed record. -/
theorem withdrawRemovesOrShortens : Obligations.WithdrawRemovesOrShortens := by
  refine ⟨fun s r hf hs => exec_withdraw_short hf hs, fun s r hr => ?_⟩
  rw [exec_withdraw_received hr, State.takeWithdraw, withdrawClaim_eq]
  rfl

/-! ### ANCHOR_REBASE -/

theorem exec_anchorRebase_eq (s : State) : exec .anchorRebase s = execAnchorRebase s := rfl

/-- The handling of ANCHOR_REBASE with an anchor: its tick moves on, frame number and phase stay, and no other part of the state
changes but the wake tick of DOZE (R51, R154). -/
theorem exec_anchorRebase {s : State} {a : Anchor} (hs : s.Settled) (ha : s.air.anchor = some a) :
    exec .anchorRebase s = .next
      (State.refreshWake
        { s with air :=
          { (s.reach (after a.tick (2 ^ 24))).air with
            anchor := some { a with tick := after a.tick (2 ^ 24) } } }) := by
  obtain ⟨hi, hagenda⟩ := hs
  rw [exec_anchorRebase_eq, execAnchorRebase]
  refine State.act_untold hi ?_ hagenda rfl rfl
  simp only [ha, State.atTick]
  exact State.reach_with_air s _ _

/-- 51200 frames of 8192/25 ticks are 2^24 ticks exactly, so no fraction is lost when the anchor moves on by them (R49, R51). -/
theorem frameOffset_rebase (p k : Nat) : (p + 8192 * (k + 51200)) / 25 = 2 ^ 24 + (p + 8192 * k) / 25 := by
  omega

/-- The boundaries from a re-based anchor on are those of the old one, 51200 frames further (R51). -/
theorem Anchor.boundary_rebase (a : Anchor) (k : Nat) :
    ({ a with tick := after a.tick (2 ^ 24) } : Anchor).boundary k = a.boundary (k + 51200) := by
  simp only [Anchor.boundary, after_after, frameOffset_rebase]

/-- A frame number comes round in 51200 frames, 50 times 1024 (R48, R51). -/
theorem frameNumber_rebase (n k : Nat) : (n + k) % 1024 = (n + (k + 51200)) % 1024 := by
  omega

/-- Settles O30: the re-based anchor is the old one moved on by exactly 51200 frames. -/
theorem rebasedAnchorKeepsTheBoundaries : Obligations.RebasedAnchorKeepsTheBoundaries :=
  ⟨fun _ _ hs ha => exec_anchorRebase hs ha, fun a k => ⟨a.boundary_rebase k, frameNumber_rebase a.frame k⟩⟩

end Sys2Proof.Machine
